-- ==== Sys2Proof/Word.lean ====
section
/-! DEFINITION. The word types of the machine (00_scope.md R6, R8) and the type of a sparse store of words. -/

namespace Sys2Proof

/-- A byte, `u8` of R8. -/
abbrev Byte := BitVec 8

/-- A 16-bit value, `u16` of R8: an address, a register pair, SP, PC. -/
abbrev Word := BitVec 16

/-- A sparse store: pairs of an index and a value, canonical when the indexes rise strictly and no value is the
one an unlisted index reads as (Machine/Store.lean). `Store 8` is a list of `Host.Cell`. -/
abbrev Store (w : Nat) := List (Nat × BitVec w)

end Sys2Proof
end

