-- ==== Sys2Proof/Machine/Bits.lean ====
section
/-! DEFINITION. Bit, byte-order and sign-extension helpers (00_scope.md R7, R8). -/

namespace Sys2Proof.Machine

/-- `v[i]` of R7: bit `i` of a byte, bit 0 the least significant. -/
def bit (v : Byte) (i : Nat) : Bool := v.getLsbD i

/-- `v[7:0]` of R7. -/
def loByte (v : Word) : Byte := v.setWidth 8

/-- `v[15:8]` of R7. -/
def hiByte (v : Word) : Byte := (v >>> 8).setWidth 8

/-- `cat(hi, lo)` of R8: joins two bytes, `hi * 256 + lo`. -/
def cat (hi lo : Byte) : Word := hi ++ lo

/-- `sext_16` of R8: the two's-complement extension of a byte to 16 bits. -/
def sext16 (e : Byte) : Word := e.signExtend 16

/-- The address `0xFF00 + o` of the high page (R100, R167). -/
def highPage (o : Byte) : Word := 0xFF00#16 + o.setWidth 16

/-- A byte whose bit `i` is set and whose other bits are clear, `1 << i` in 8 bits. -/
def bitMask (i : Nat) : Byte := 1#8 <<< i

/-- The byte `v` with bit `i` cleared: `v & ~(1 << i)`. -/
def clearBit (v : Byte) (i : Nat) : Byte := v &&& ~~~(bitMask i)

/-- The byte `v` with bit `i` set: `v | (1 << i)`. -/
def setBit (v : Byte) (i : Nat) : Byte := v ||| bitMask i

end Sys2Proof.Machine
end

