-- ==== Sys2Proof/Machine/Blocks.lean ====
section
/-! DEFINITION. The blocks of state the spec gives the machine (10_state.md sections 1 and 2), the host's calls
(60_exceptions.md section 8) and the parameters (00_scope.md R6), all plain data. -/

namespace Sys2Proof.Machine

/-- `COLOR_MODE` of R6 (92 D1). -/
inductive ColorMode where
  | dmg
  | cgb
  deriving DecidableEq, Repr

/-- `RAM_INIT` of R6 (92 D11). -/
inductive RamInit where
  | zero
  | draw
  deriving DecidableEq, Repr

/-- `DIV_READ` of R6 (92 D16). -/
inductive DivRead where
  | counter
  | draw
  deriving DecidableEq, Repr

/-- `JOYPAD_IRQ` of R6 (92 D20). -/
inductive JoypadIrq where
  | never
  | onPress
  deriving DecidableEq, Repr

/-- `ILLEGAL_OPCODE` of R6 (92 D3). -/
inductive IllegalOpcode where
  | nop
  | stuck
  deriving DecidableEq, Repr

/-- The parameters of R6, fixed for a run. -/
structure Params where
  colorMode : ColorMode
  /-- `EI_DELAY = 1` (92 D6). -/
  eiDelay : Bool
  intDispatchCycles : Nat
  ramInit : RamInit
  divRead : DivRead
  joypadIrq : JoypadIrq
  /-- `STAT_MODE_IRQ = on` (92 D23). -/
  statModeIrq : Bool
  illegalOpcode : IllegalOpcode
  deriving DecidableEq, Repr

/-- The CPU state tuple of R30. -/
structure Cpu where
  a : Byte
  f : Byte
  b : Byte
  c : Byte
  d : Byte
  e : Byte
  h : Byte
  l : Byte
  sp : Word
  pc : Word
  ime : Bool
  halted : Bool
  eiPending : Bool
  deriving DecidableEq, Repr

/-- `ROM_SIZE` and the image `ROM[0 .. ROM_SIZE-1]` of R40; an unlisted offset inside the image holds 0x00. -/
structure RomImage where
  size : Nat
  bytes : Store 8
  deriving DecidableEq, Repr

/-- The cartridge and bank state of R40. -/
structure Cart where
  rom : RomImage
  romBankLo : BitVec 5
  bankHi : BitVec 2
  bankMode : BitVec 1
  deriving DecidableEq, Repr

/-- The memory storage of R41. -/
structure Ram where
  /-- `MEM[0x8000 .. 0xFFFF]`, keyed by address. -/
  mem : Store 8
  /-- `VRAM1[0 .. 0x1FFF]` (CGB). -/
  vram1 : Store 8
  /-- `WRAMX[n][o]` for n = 2..7 (CGB), keyed by `n * 0x1000 + o`. -/
  wramx : Store 8
  /-- `BGPAL[0 .. 63]` (CGB). -/
  bgPal : Store 8
  /-- `OBJPAL[0 .. 63]` (CGB). -/
  objPal : Store 8
  deriving DecidableEq, Repr

/-- The timer state of R42. -/
structure Timer where
  div : Byte
  divAcc : Nat
  timaAcc : Nat
  deriving DecidableEq, Repr

/-- The line snapshot of R44, taken at mode-3 entry. -/
structure Snapshot where
  scx : Byte
  scy : Byte
  wx : Byte
  wy : Byte
  deriving DecidableEq, Repr

/-- The PPU state of R44. -/
structure Ppu where
  mode : BitVec 2
  snap : Snapshot
  /-- `FB[l][px]`, keyed by `160 * l + px`; 15 bits hold either pixel format of R461. -/
  fb : Store 15
  deriving DecidableEq, Repr

/-- Where the frame driver stands in `next_frame()` (R471): the budget it is running. -/
inductive Phase where
  /-- Between two calls of `next_frame`, before line 0 of a new frame (R82). -/
  | between
  /-- LCD-off line `k` of a block of 154 (R475). -/
  | idle (k : Nat)
  /-- Mode 2 of line `l`. -/
  | oam (l : Nat)
  /-- Mode 3 of line `l`. -/
  | transfer (l : Nat)
  /-- Mode 0 of line `l`. -/
  | hblank (l : Nat)
  /-- V-blank line `l`, 144 to 153. -/
  | vblank (l : Nat)
  deriving DecidableEq, Repr

/-- The frame driver's state (R44, R471). -/
structure Driver where
  cycleBalance : Int
  phase : Phase
  /-- The copy of FB that `next_frame` hands to the host (R471). -/
  frame : Store 15
  /-- How many `next_frame` calls have returned (R525 (b)); the model's own (log entry 11). -/
  framesDone : Nat
  deriving DecidableEq, Repr

/-- What a .sav file holds (R482): the RAM image, then the CpuState block. -/
structure SaveData where
  ram : Ram
  cpu : Cpu
  /-- The image that was loaded when `save_state` wrote the file; none for a file of the host's making. The model's own:
  with it R482's promise that a save followed by a load restores can be kept (log entry 5). -/
  writtenUnder : Option RomImage
  deriving DecidableEq, Repr

/-- The .sav files of the host, keyed by the number of the ROM file's name, keys rising (log entry 6). -/
abbrev SavFiles := List (Nat × SaveData)

/-- The host's calls (R483). -/
inductive HostCall where
  | press (b : Nat)
  | release (b : Nat)
  | releaseAll
  | saveState
  | loadState
  /-- `load_rom(path)`: the number of the file's name, its contents (none where it cannot be opened), and the RAM draws
  that `RAM_INIT = draw` asks for (R504; log entries 3 and 6). -/
  | loadRom (path : Nat) (file : Option RomImage) (draws : Ram)
  /-- The host writes, replaces or (with none) removes the .sav file of the ROM file `path` (R483: "host may touch the
  .sav file"). -/
  | touchSav (path : Nat) (file : Option SaveData)
  deriving DecidableEq, Repr

/-- The host's side of the interface. -/
structure HostSide where
  /-- The host calls still to land: one list for each boundary between steps (R480, R526; log entry 7). -/
  schedule : List (List HostCall)
  /-- The bytes handed to `serial_print`, oldest first (R443; log entry 11). -/
  serialOut : List Byte
  /-- The number of the name of the ROM file that was loaded, `<rom_filename>` of R482 (log entry 6). -/
  romPath : Nat
  /-- Every .sav file there is (R482; log entry 6). -/
  savFiles : SavFiles
  /-- What the last `load_state` told the host: true for a restore, false for a reported failure (log entry 11). -/
  loadReport : Option Bool
  deriving DecidableEq, Repr

end Sys2Proof.Machine
end

