-- ==== Sys2Proof/Config.lean ====
section
/-! DEFINITION. The free values of the spec, constants with no body, and the default parameters of R6. -/

namespace Sys2Proof

/-- The value of the n-th read of DIV (0xFF04) with `DIV_READ = draw`: a free byte (R53, R105; 93 I2). DESIGN CHOICE,
safe: log entry 4. -/
opaque Config.divDraw : Nat → BitVec 8

/-- `SAME_ROM(blob, rom)` of R482 (93 I22) for a file that `save_state` did not write under the loaded image; see
`sameRom` in Machine/HostCalls.lean. DESIGN CHOICE, safe: log entry 5. -/
opaque Config.sameRom : Machine.SaveData → Machine.RomImage → Bool

/-- The defaults of R6. -/
def Config.defaults : Machine.Params where
  colorMode := .dmg
  eiDelay := true
  intDispatchCycles := 20
  ramInit := .zero
  divRead := .counter
  joypadIrq := .onPress
  statModeIrq := false
  illegalOpcode := .nop

end Sys2Proof
end

