-- ==== Sys2Proof/Machine/Store.lean ====
section
/-! DEFINITION. Reading and writing a sparse store, and its canonical form. An unlisted index reads as zero, which
for memory is `RAM_INIT = zero` (70_reset_and_hazards.md R504; log entry 3). -/

namespace Sys2Proof

/-- What index `a` holds: the first entry of that index, or 0 where none is listed. -/
def Store.read {w : Nat} : Store w → Nat → BitVec w
  | [], _ => 0
  | (k, x) :: m, a => if a = k then x else Store.read m a

/-- The store without any entry of index `a`. -/
def Store.erase {w : Nat} : Store w → Nat → Store w
  | [], _ => []
  | (k, x) :: m, a => if a = k then Store.erase m a else (k, x) :: Store.erase m a

/-- An entry put before the first entry of a greater index. -/
def Store.insert {w : Nat} : Store w → Nat → BitVec w → Store w
  | [], a, v => [(a, v)]
  | (k, x) :: m, a, v => if a < k then (a, v) :: (k, x) :: m else (k, x) :: Store.insert m a v

/-- The store with index `a` holding `v`; writing 0, which an unlisted index reads as, removes the entry. -/
def Store.write {w : Nat} (m : Store w) (a : Nat) (v : BitVec w) : Store w :=
  if v = 0 then m.erase a else (m.erase a).insert a v

/-- Indexes at least `lo` and strictly rising, and no entry 0. -/
def Store.rising {w : Nat} : Nat → Store w → Bool
  | _, [] => true
  | lo, (k, x) :: m => decide (lo ≤ k) && decide (x ≠ 0) && Store.rising (k + 1) m

/-- The canonical form of a store of the indexes `lo ≤ a < hi`. -/
def Store.wf {w : Nat} (lo hi : Nat) (m : Store w) : Bool :=
  Store.rising lo m && m.all fun c => decide (c.1 < hi)

/-- The canonical store of the cells of `cells` whose index is in `lo ≤ a < hi`, a later cell of an index winning. -/
def Store.fill {w : Nat} (lo hi : Nat) (cells : Store w) : Store w :=
  cells.foldl (fun m c => if lo ≤ c.1 ∧ c.1 < hi then m.write c.1 c.2 else m) []

end Sys2Proof
end

