-- ==== Sys2Proof/Machine/Reset.lean ====
section
/-! DEFINITION. What load_rom leaves in each block (70_reset_and_hazards.md R500, R501, R504; 10_state.md R80 to R82). -/

namespace Sys2Proof.Machine

/-- The CPU registers after load_rom (R81). -/
def resetCpu (p : Params) : Cpu :=
  match p.colorMode with
  | .dmg =>
    { a := 0x01, f := 0xB0, b := 0x00, c := 0x13, d := 0x00, e := 0xD8, h := 0x01, l := 0x4D
      sp := 0xFFFE, pc := 0x0100, ime := false, halted := false, eiPending := false }
  | .cgb =>
    { a := 0x11, f := 0x80, b := 0x00, c := 0x00, d := 0xFF, e := 0x56, h := 0x00, l := 0x0D
      sp := 0xFFFE, pc := 0x0100, ime := false, halted := false, eiPending := false }

/-- The I/O bytes of MEM after load_rom, both modes (R80). -/
def ioReset : List (Nat × Byte) :=
  [(0xFF00, 0xCF), (0xFF01, 0x00), (0xFF02, 0x7E), (0xFF05, 0x00), (0xFF06, 0x00), (0xFF07, 0xF8), (0xFF0F, 0xE1),
   (0xFF40, 0x91), (0xFF41, 0x85), (0xFF42, 0x00), (0xFF43, 0x00), (0xFF44, 0x00), (0xFF45, 0x00), (0xFF46, 0xFF),
   (0xFF47, 0xFC), (0xFF48, 0xFF), (0xFF49, 0xFF), (0xFF4A, 0x00), (0xFF4B, 0x00), (0xFFFF, 0x00)]

/-- The I/O bytes of MEM that R80 gives for CGB only: KEY1, VBK, BCPS, OCPS, SVBK. -/
def ioResetCgb : List (Nat × Byte) :=
  [(0xFF4D, 0x00), (0xFF4F, 0x00), (0xFF68, 0x00), (0xFF6A, 0x00), (0xFF70, 0x00)]

/-- Bytes `lo ≤ a < hi` "per RAM_INIT" (R504): all 0x00, or the free bytes given with the load. -/
def initBytes (p : Params) (lo hi : Nat) (draws : Store 8) : Store 8 :=
  match p.ramInit with
  | .zero => []
  | .draw => Store.fill lo hi draws

/-- The memory storage after load_rom (R80, R82, R504). In DMG the CGB stores do not exist and stay empty. -/
def resetRam (p : Params) (draws : Ram) : Ram :=
  match p.colorMode with
  | .dmg =>
    { mem := ioReset.foldl (fun m c => m.write c.1 c.2) (initBytes p 0x8000 0x10000 draws.mem)
      vram1 := [], wramx := [], bgPal := [], objPal := [] }
  | .cgb =>
    { mem := (ioReset ++ ioResetCgb).foldl (fun m c => m.write c.1 c.2) (initBytes p 0x8000 0x10000 draws.mem)
      vram1 := initBytes p 0 0x2000 draws.vram1
      wramx := initBytes p 0x2000 0x8000 draws.wramx
      bgPal := (List.range 64).map fun i => (i, 0xFF#8)
      objPal := initBytes p 0 64 draws.objPal }

/-- The cartridge with a file's image loaded (R500, R82). -/
def resetCart (image : RomImage) : Cart where
  rom := { size := image.size, bytes := Store.fill 0 image.size image.bytes }
  romBankLo := 1
  bankHi := 0
  bankMode := 0

/-- The timer after load_rom (R80). -/
def resetTimer : Timer where
  div := 0
  divAcc := 0
  timaAcc := 0

/-- The PPU after load_rom (R82); the snapshot's values are the model's (log entry 10). -/
def resetPpu : Ppu where
  mode := 0
  snap := { scx := 0, scy := 0, wx := 0, wy := 0 }
  fb := []

/-- The frame driver after load_rom (R82); `frame` and `framesDone` are the model's (log entry 11). -/
def resetDriver : Driver where
  cycleBalance := 0
  phase := .between
  frame := []
  framesDone := 0

/-- No host call is scheduled and no .sav file exists; the model's (log entries 6, 7, 11). -/
def resetHostSide : HostSide where
  schedule := []
  serialOut := []
  romPath := 0
  savFiles := []
  loadReport := none

/-- The ROM of the reset state: 32 KiB of zero bytes. DESIGN CHOICE, unsafe: log entry 2. -/
def blankRom : RomImage where
  size := 0x8000
  bytes := []

/-- No RAM draws. -/
def noDraws : Ram where
  mem := []
  vram1 := []
  wramx := []
  bgPal := []
  objPal := []

end Sys2Proof.Machine
end

