-- ==== Sys2Proof/Machine/State.lean ====
section
/-! DEFINITION. The state of the machine, the reasons a step can stop, and the state after load_rom. -/

namespace Sys2Proof.Machine

/-- Everything the spec gives the machine (10_state.md R30 to R72), block by block, the parameters of 00_scope.md R6,
and the two fields of the model's own that INVENTORY.md names. -/
structure State where
  params : Params
  cpu : Cpu
  cart : Cart
  ram : Ram
  timer : Timer
  /-- Bit i cleared: button i is pressed (R43). -/
  controls : Byte
  ppu : Ppu
  driver : Driver
  hostSide : HostSide
  /-- What the running or last machine step costs, MachineStep's return value (R401); the model's own (log entry 9). -/
  stepCycles : Nat
  /-- How many free values reads of DIV have taken (R105); the model's own (log entry 4). -/
  divDraws : Nat
  deriving DecidableEq, Repr

/-- The hardware raises no fault: there is no synchronous exception of any kind (00_scope.md R13, 60_exceptions.md
R400), so the type has no constructor. -/
inductive Fault where
  deriving DecidableEq, Repr

/-- The reasons a step has no move. Only host calls outside the interface (93 I8, I12, I13) are refused: every
instruction runs. -/
inductive Refusal where
  /-- An instruction not modelled yet; safe. No arm of exec raises it. -/
  | notModelled (mnemonic : String)
  /-- Raised by `press` and `release` with a button id above 7 (60_exceptions.md R480, 93 I12); safe. -/
  | buttonId (b : Nat)
  /-- Raised by `save_state`, `load_state`, `load_rom` and a touched .sav file during a `next_frame` call (R483, 93 I13);
  safe. -/
  | duringFrame
  /-- Raised by `load_rom` on a file that cannot be opened: the process ends and no machine exists (R481, 93 I8); safe. -/
  | romFileUnreadable
  deriving DecidableEq, Repr

/-- What an instruction's meaning, or a step, answers. -/
abbrev Result := Host.Outcome State Fault Refusal

/-- The machine right after load_rom of an image (R500), with the RAM draws that `RAM_INIT = draw` asks for. -/
def State.loaded (p : Params) (image : RomImage) (draws : Ram) : State where
  params := p
  cpu := resetCpu p
  cart := resetCart image
  ram := resetRam p draws
  timer := resetTimer
  controls := 0xFF
  ppu := resetPpu
  driver := resetDriver
  hostSide := resetHostSide
  stepCycles := 0
  divDraws := 0

/-- The machine right after load_rom with the default parameters and a ROM of zero bytes (R500, R501; log entry 2). -/
def State.reset : State := State.loaded Config.defaults blankRom noDraws

end Sys2Proof.Machine
end

