-- ==== Sys2Proof/Syntax.lean ====
section
/-! DEFINITION. The instructions: one constructor per mnemonic of spec/opcode_table.json, and the names of the operand
fields of 30_encoding.md R163 to R166. -/

namespace Sys2Proof

/-- The 8-bit registers an operand field names (R163; value 6 is the byte at HL, no register). -/
inductive Reg8 where
  | b
  | c
  | d
  | e
  | h
  | l
  | a
  deriving DecidableEq, Repr

/-- The 16-bit register operands: `rp` and `rp2` of R164. -/
inductive Pair where
  | bc
  | de
  | hl
  | sp
  | af
  deriving DecidableEq, Repr

/-- The condition codes of R165, R326. -/
inductive Cond where
  | nz
  | z
  | nc
  | c
  deriving DecidableEq, Repr

/-- The operations of the 8-bit ALU field (R166). -/
inductive AluOp where
  | add
  | adc
  | sub
  | sbc
  | and
  | xor
  | or
  | cp
  deriving DecidableEq, Repr

/-- The operations of the CB rotate and shift field (R166, R171). -/
inductive RotOp where
  | rlc
  | rrc
  | rl
  | rr
  | sla
  | sra
  | swap
  | srl
  deriving DecidableEq, Repr

/-- The instruction set: the primary map R168 and the CB map R171, each row of the table a constructor. The 11 rows
ILLEGAL are one constructor that carries the opcode byte (R173). `prefixCB` carries the byte after 0xCB (R356): it is
never an instruction by itself, since those two bytes are a CB instruction's own words (log entry 14). The rows with
operand bytes stand first, the others in the table's order. -/
inductive Instr where
  /-- `LD BC,d16`, 01 (R230) -/
  | ldBCD16 (d16 : Word)
  /-- `LD B,d8`, 06 (R201) -/
  | ldBD8 (d8 : Byte)
  /-- `LD (a16),SP`, 08 (R231) -/
  | ldIndA16SP (a16 : Word)
  /-- `LD C,d8`, 0E (R201) -/
  | ldCD8 (d8 : Byte)
  /-- `STOP`, 10 (R352) -/
  | stop (d8 : Byte)
  /-- `LD DE,d16`, 11 (R230) -/
  | ldDED16 (d16 : Word)
  /-- `LD D,d8`, 16 (R201) -/
  | ldDD8 (d8 : Byte)
  /-- `JR e`, 18 (R333) -/
  | jrDisp (e : Byte)
  /-- `LD E,d8`, 1E (R201) -/
  | ldED8 (d8 : Byte)
  /-- `JR NZ,e`, 20 (R334) -/
  | jrNZDisp (e : Byte)
  /-- `LD HL,d16`, 21 (R230) -/
  | ldHLD16 (d16 : Word)
  /-- `LD H,d8`, 26 (R201) -/
  | ldHD8 (d8 : Byte)
  /-- `JR Z,e`, 28 (R334) -/
  | jrZDisp (e : Byte)
  /-- `LD L,d8`, 2E (R201) -/
  | ldLD8 (d8 : Byte)
  /-- `JR NC,e`, 30 (R334) -/
  | jrNCDisp (e : Byte)
  /-- `LD SP,d16`, 31 (R230) -/
  | ldSPD16 (d16 : Word)
  /-- `LD (HL),d8`, 36 (R204) -/
  | ldIndHLD8 (d8 : Byte)
  /-- `JR C,e`, 38 (R334) -/
  | jrCDisp (e : Byte)
  /-- `LD A,d8`, 3E (R201) -/
  | ldAD8 (d8 : Byte)
  /-- `JP NZ,a16`, C2 (R331) -/
  | jpNZA16 (a16 : Word)
  /-- `JP a16`, C3 (R330) -/
  | jpA16 (a16 : Word)
  /-- `CALL NZ,a16`, C4 (R336) -/
  | callNZA16 (a16 : Word)
  /-- `ADD A,d8`, C6 (R252) -/
  | addAD8 (d8 : Byte)
  /-- `JP Z,a16`, CA (R331) -/
  | jpZA16 (a16 : Word)
  /-- `PREFIX CB`, 0xCB and the byte that names the CB instruction (R356) -/
  | prefixCB (cbop : Byte)
  /-- `CALL Z,a16`, CC (R336) -/
  | callZA16 (a16 : Word)
  /-- `CALL a16`, CD (R335) -/
  | callA16 (a16 : Word)
  /-- `ADC A,d8`, CE (R255) -/
  | adcAD8 (d8 : Byte)
  /-- `JP NC,a16`, D2 (R331) -/
  | jpNCA16 (a16 : Word)
  /-- the unassigned opcodes (R355) -/
  | illegal (op : Byte)
  /-- `CALL NC,a16`, D4 (R336) -/
  | callNCA16 (a16 : Word)
  /-- `SUB d8`, D6 (R258) -/
  | subD8 (d8 : Byte)
  /-- `JP C,a16`, DA (R331) -/
  | jpCA16 (a16 : Word)
  /-- `CALL C,a16`, DC (R336) -/
  | callCA16 (a16 : Word)
  /-- `SBC A,d8`, DE (R261) -/
  | sbcAD8 (d8 : Byte)
  /-- `LDH (a8),A`, E0 (R212) -/
  | ldhIndA8A (a8 : Byte)
  /-- `AND d8`, E6 (R264) -/
  | andD8 (d8 : Byte)
  /-- `ADD SP,e`, E8 (R293) -/
  | addSPDisp (e : Byte)
  /-- `LD (a16),A`, EA (R210) -/
  | ldIndA16A (a16 : Word)
  /-- `XOR d8`, EE (R267) -/
  | xorD8 (d8 : Byte)
  /-- `LDH A,(a8)`, F0 (R211) -/
  | ldhAIndA8 (a8 : Byte)
  /-- `OR d8`, F6 (R270) -/
  | orD8 (d8 : Byte)
  /-- `LD HL,SP+e`, F8 (R236) -/
  | ldHLSPDisp (e : Byte)
  /-- `LD A,(a16)`, FA (R209) -/
  | ldAIndA16 (a16 : Word)
  /-- `CP d8`, FE (R273) -/
  | cpD8 (d8 : Byte)
  /-- `NOP`, 00 (R350) -/
  | nop
  /-- `LD (BC),A`, 02 (R207) -/
  | ldIndBCA
  /-- `INC BC`, 03 (R291) -/
  | incBC
  /-- `INC B`, 04 (R274) -/
  | incB
  /-- `DEC B`, 05 (R276) -/
  | decB
  /-- `RLCA`, 07 (R300) -/
  | rlca
  /-- `ADD HL,BC`, 09 (R290) -/
  | addHLBC
  /-- `LD A,(BC)`, 0A (R205) -/
  | ldAIndBC
  /-- `DEC BC`, 0B (R292) -/
  | decBC
  /-- `INC C`, 0C (R274) -/
  | incC
  /-- `DEC C`, 0D (R276) -/
  | decC
  /-- `RRCA`, 0F (R301) -/
  | rrca
  /-- `LD (DE),A`, 12 (R208) -/
  | ldIndDEA
  /-- `INC DE`, 13 (R291) -/
  | incDE
  /-- `INC D`, 14 (R274) -/
  | incD
  /-- `DEC D`, 15 (R276) -/
  | decD
  /-- `RLA`, 17 (R302) -/
  | rla
  /-- `ADD HL,DE`, 19 (R290) -/
  | addHLDE
  /-- `LD A,(DE)`, 1A (R206) -/
  | ldAIndDE
  /-- `DEC DE`, 1B (R292) -/
  | decDE
  /-- `INC E`, 1C (R274) -/
  | incE
  /-- `DEC E`, 1D (R276) -/
  | decE
  /-- `RRA`, 1F (R303) -/
  | rra
  /-- `LD (HL+),A`, 22 (R215) -/
  | ldIndHLIncA
  /-- `INC HL`, 23 (R291) -/
  | incHL
  /-- `INC H`, 24 (R274) -/
  | incH
  /-- `DEC H`, 25 (R276) -/
  | decH
  /-- `DAA`, 27 (R278) -/
  | daa
  /-- `ADD HL,HL`, 29 (R290) -/
  | addHLHL
  /-- `LD A,(HL+)`, 2A (R216) -/
  | ldAIndHLInc
  /-- `DEC HL`, 2B (R292) -/
  | decHL
  /-- `INC L`, 2C (R274) -/
  | incL
  /-- `DEC L`, 2D (R276) -/
  | decL
  /-- `CPL`, 2F (R279) -/
  | cpl
  /-- `LD (HL-),A`, 32 (R217) -/
  | ldIndHLDecA
  /-- `INC SP`, 33 (R291) -/
  | incSP
  /-- `INC (HL)`, 34 (R275) -/
  | incIndHL
  /-- `DEC (HL)`, 35 (R277) -/
  | decIndHL
  /-- `SCF`, 37 (R280) -/
  | scf
  /-- `ADD HL,SP`, 39 (R290) -/
  | addHLSP
  /-- `LD A,(HL-)`, 3A (R218) -/
  | ldAIndHLDec
  /-- `DEC SP`, 3B (R292) -/
  | decSP
  /-- `INC A`, 3C (R274) -/
  | incA
  /-- `DEC A`, 3D (R276) -/
  | decA
  /-- `CCF`, 3F (R281) -/
  | ccf
  /-- `LD B,B`, 40 (R200) -/
  | ldBB
  /-- `LD B,C`, 41 (R200) -/
  | ldBC
  /-- `LD B,D`, 42 (R200) -/
  | ldBD
  /-- `LD B,E`, 43 (R200) -/
  | ldBE
  /-- `LD B,H`, 44 (R200) -/
  | ldBH
  /-- `LD B,L`, 45 (R200) -/
  | ldBL
  /-- `LD B,(HL)`, 46 (R202) -/
  | ldBIndHL
  /-- `LD B,A`, 47 (R200) -/
  | ldBA
  /-- `LD C,B`, 48 (R200) -/
  | ldCB
  /-- `LD C,C`, 49 (R200) -/
  | ldCC
  /-- `LD C,D`, 4A (R200) -/
  | ldCD
  /-- `LD C,E`, 4B (R200) -/
  | ldCE
  /-- `LD C,H`, 4C (R200) -/
  | ldCH
  /-- `LD C,L`, 4D (R200) -/
  | ldCL
  /-- `LD C,(HL)`, 4E (R202) -/
  | ldCIndHL
  /-- `LD C,A`, 4F (R200) -/
  | ldCA
  /-- `LD D,B`, 50 (R200) -/
  | ldDB
  /-- `LD D,C`, 51 (R200) -/
  | ldDC
  /-- `LD D,D`, 52 (R200) -/
  | ldDD
  /-- `LD D,E`, 53 (R200) -/
  | ldDE
  /-- `LD D,H`, 54 (R200) -/
  | ldDH
  /-- `LD D,L`, 55 (R200) -/
  | ldDL
  /-- `LD D,(HL)`, 56 (R202) -/
  | ldDIndHL
  /-- `LD D,A`, 57 (R200) -/
  | ldDA
  /-- `LD E,B`, 58 (R200) -/
  | ldEB
  /-- `LD E,C`, 59 (R200) -/
  | ldEC
  /-- `LD E,D`, 5A (R200) -/
  | ldED
  /-- `LD E,E`, 5B (R200) -/
  | ldEE
  /-- `LD E,H`, 5C (R200) -/
  | ldEH
  /-- `LD E,L`, 5D (R200) -/
  | ldEL
  /-- `LD E,(HL)`, 5E (R202) -/
  | ldEIndHL
  /-- `LD E,A`, 5F (R200) -/
  | ldEA
  /-- `LD H,B`, 60 (R200) -/
  | ldHB
  /-- `LD H,C`, 61 (R200) -/
  | ldHC
  /-- `LD H,D`, 62 (R200) -/
  | ldHD
  /-- `LD H,E`, 63 (R200) -/
  | ldHE
  /-- `LD H,H`, 64 (R200) -/
  | ldHH
  /-- `LD H,L`, 65 (R200) -/
  | ldHL
  /-- `LD H,(HL)`, 66 (R202) -/
  | ldHIndHL
  /-- `LD H,A`, 67 (R200) -/
  | ldHA
  /-- `LD L,B`, 68 (R200) -/
  | ldLB
  /-- `LD L,C`, 69 (R200) -/
  | ldLC
  /-- `LD L,D`, 6A (R200) -/
  | ldLD
  /-- `LD L,E`, 6B (R200) -/
  | ldLE
  /-- `LD L,H`, 6C (R200) -/
  | ldLH
  /-- `LD L,L`, 6D (R200) -/
  | ldLL
  /-- `LD L,(HL)`, 6E (R202) -/
  | ldLIndHL
  /-- `LD L,A`, 6F (R200) -/
  | ldLA
  /-- `LD (HL),B`, 70 (R203) -/
  | ldIndHLB
  /-- `LD (HL),C`, 71 (R203) -/
  | ldIndHLC
  /-- `LD (HL),D`, 72 (R203) -/
  | ldIndHLD
  /-- `LD (HL),E`, 73 (R203) -/
  | ldIndHLE
  /-- `LD (HL),H`, 74 (R203) -/
  | ldIndHLH
  /-- `LD (HL),L`, 75 (R203) -/
  | ldIndHLL
  /-- `HALT`, 76 (R351) -/
  | halt
  /-- `LD (HL),A`, 77 (R203) -/
  | ldIndHLA
  /-- `LD A,B`, 78 (R200) -/
  | ldAB
  /-- `LD A,C`, 79 (R200) -/
  | ldAC
  /-- `LD A,D`, 7A (R200) -/
  | ldAD
  /-- `LD A,E`, 7B (R200) -/
  | ldAE
  /-- `LD A,H`, 7C (R200) -/
  | ldAH
  /-- `LD A,L`, 7D (R200) -/
  | ldAL
  /-- `LD A,(HL)`, 7E (R202) -/
  | ldAIndHL
  /-- `LD A,A`, 7F (R200) -/
  | ldAA
  /-- `ADD A,B`, 80 (R250) -/
  | addAB
  /-- `ADD A,C`, 81 (R250) -/
  | addAC
  /-- `ADD A,D`, 82 (R250) -/
  | addAD
  /-- `ADD A,E`, 83 (R250) -/
  | addAE
  /-- `ADD A,H`, 84 (R250) -/
  | addAH
  /-- `ADD A,L`, 85 (R250) -/
  | addAL
  /-- `ADD A,(HL)`, 86 (R251) -/
  | addAIndHL
  /-- `ADD A,A`, 87 (R250) -/
  | addAA
  /-- `ADC A,B`, 88 (R253) -/
  | adcAB
  /-- `ADC A,C`, 89 (R253) -/
  | adcAC
  /-- `ADC A,D`, 8A (R253) -/
  | adcAD
  /-- `ADC A,E`, 8B (R253) -/
  | adcAE
  /-- `ADC A,H`, 8C (R253) -/
  | adcAH
  /-- `ADC A,L`, 8D (R253) -/
  | adcAL
  /-- `ADC A,(HL)`, 8E (R254) -/
  | adcAIndHL
  /-- `ADC A,A`, 8F (R253) -/
  | adcAA
  /-- `SUB B`, 90 (R256) -/
  | subB
  /-- `SUB C`, 91 (R256) -/
  | subC
  /-- `SUB D`, 92 (R256) -/
  | subD
  /-- `SUB E`, 93 (R256) -/
  | subE
  /-- `SUB H`, 94 (R256) -/
  | subH
  /-- `SUB L`, 95 (R256) -/
  | subL
  /-- `SUB (HL)`, 96 (R257) -/
  | subIndHL
  /-- `SUB A`, 97 (R256) -/
  | subA
  /-- `SBC A,B`, 98 (R259) -/
  | sbcAB
  /-- `SBC A,C`, 99 (R259) -/
  | sbcAC
  /-- `SBC A,D`, 9A (R259) -/
  | sbcAD
  /-- `SBC A,E`, 9B (R259) -/
  | sbcAE
  /-- `SBC A,H`, 9C (R259) -/
  | sbcAH
  /-- `SBC A,L`, 9D (R259) -/
  | sbcAL
  /-- `SBC A,(HL)`, 9E (R260) -/
  | sbcAIndHL
  /-- `SBC A,A`, 9F (R259) -/
  | sbcAA
  /-- `AND B`, A0 (R262) -/
  | andB
  /-- `AND C`, A1 (R262) -/
  | andC
  /-- `AND D`, A2 (R262) -/
  | andD
  /-- `AND E`, A3 (R262) -/
  | andE
  /-- `AND H`, A4 (R262) -/
  | andH
  /-- `AND L`, A5 (R262) -/
  | andL
  /-- `AND (HL)`, A6 (R263) -/
  | andIndHL
  /-- `AND A`, A7 (R262) -/
  | andA
  /-- `XOR B`, A8 (R265) -/
  | xorB
  /-- `XOR C`, A9 (R265) -/
  | xorC
  /-- `XOR D`, AA (R265) -/
  | xorD
  /-- `XOR E`, AB (R265) -/
  | xorE
  /-- `XOR H`, AC (R265) -/
  | xorH
  /-- `XOR L`, AD (R265) -/
  | xorL
  /-- `XOR (HL)`, AE (R266) -/
  | xorIndHL
  /-- `XOR A`, AF (R265) -/
  | xorA
  /-- `OR B`, B0 (R268) -/
  | orB
  /-- `OR C`, B1 (R268) -/
  | orC
  /-- `OR D`, B2 (R268) -/
  | orD
  /-- `OR E`, B3 (R268) -/
  | orE
  /-- `OR H`, B4 (R268) -/
  | orH
  /-- `OR L`, B5 (R268) -/
  | orL
  /-- `OR (HL)`, B6 (R269) -/
  | orIndHL
  /-- `OR A`, B7 (R268) -/
  | orA
  /-- `CP B`, B8 (R271) -/
  | cpB
  /-- `CP C`, B9 (R271) -/
  | cpC
  /-- `CP D`, BA (R271) -/
  | cpD
  /-- `CP E`, BB (R271) -/
  | cpE
  /-- `CP H`, BC (R271) -/
  | cpH
  /-- `CP L`, BD (R271) -/
  | cpL
  /-- `CP (HL)`, BE (R272) -/
  | cpIndHL
  /-- `CP A`, BF (R271) -/
  | cpA
  /-- `RET NZ`, C0 (R338) -/
  | retNZ
  /-- `POP BC`, C1 (R234) -/
  | popBC
  /-- `PUSH BC`, C5 (R233) -/
  | pushBC
  /-- `RST 00H`, C7 (R340) -/
  | rst00H
  /-- `RET Z`, C8 (R338) -/
  | retZ
  /-- `RET`, C9 (R337) -/
  | ret
  /-- `RST 08H`, CF (R340) -/
  | rst08H
  /-- `RET NC`, D0 (R338) -/
  | retNC
  /-- `POP DE`, D1 (R234) -/
  | popDE
  /-- `PUSH DE`, D5 (R233) -/
  | pushDE
  /-- `RST 10H`, D7 (R340) -/
  | rst10H
  /-- `RET C`, D8 (R338) -/
  | retC
  /-- `RETI`, D9 (R339) -/
  | reti
  /-- `RST 18H`, DF (R340) -/
  | rst18H
  /-- `POP HL`, E1 (R234) -/
  | popHL
  /-- `LD (C),A`, E2 (R214) -/
  | ldIndCA
  /-- `PUSH HL`, E5 (R233) -/
  | pushHL
  /-- `RST 20H`, E7 (R340) -/
  | rst20H
  /-- `JP HL`, E9 (R332) -/
  | jpHL
  /-- `RST 28H`, EF (R340) -/
  | rst28H
  /-- `POP AF`, F1 (R235) -/
  | popAF
  /-- `LD A,(C)`, F2 (R213) -/
  | ldAIndC
  /-- `DI`, F3 (R353) -/
  | di
  /-- `PUSH AF`, F5 (R233) -/
  | pushAF
  /-- `RST 30H`, F7 (R340) -/
  | rst30H
  /-- `LD SP,HL`, F9 (R232) -/
  | ldSPHL
  /-- `EI`, FB (R354) -/
  | ei
  /-- `RST 38H`, FF (R340) -/
  | rst38H
  /-- `RLC B`, CB 00 (R304) -/
  | rlcB
  /-- `RLC C`, CB 01 (R304) -/
  | rlcC
  /-- `RLC D`, CB 02 (R304) -/
  | rlcD
  /-- `RLC E`, CB 03 (R304) -/
  | rlcE
  /-- `RLC H`, CB 04 (R304) -/
  | rlcH
  /-- `RLC L`, CB 05 (R304) -/
  | rlcL
  /-- `RLC (HL)`, CB 06 (R305) -/
  | rlcIndHL
  /-- `RLC A`, CB 07 (R304) -/
  | rlcA
  /-- `RRC B`, CB 08 (R306) -/
  | rrcB
  /-- `RRC C`, CB 09 (R306) -/
  | rrcC
  /-- `RRC D`, CB 0A (R306) -/
  | rrcD
  /-- `RRC E`, CB 0B (R306) -/
  | rrcE
  /-- `RRC H`, CB 0C (R306) -/
  | rrcH
  /-- `RRC L`, CB 0D (R306) -/
  | rrcL
  /-- `RRC (HL)`, CB 0E (R307) -/
  | rrcIndHL
  /-- `RRC A`, CB 0F (R306) -/
  | rrcA
  /-- `RL B`, CB 10 (R308) -/
  | rlB
  /-- `RL C`, CB 11 (R308) -/
  | rlC
  /-- `RL D`, CB 12 (R308) -/
  | rlD
  /-- `RL E`, CB 13 (R308) -/
  | rlE
  /-- `RL H`, CB 14 (R308) -/
  | rlH
  /-- `RL L`, CB 15 (R308) -/
  | rlL
  /-- `RL (HL)`, CB 16 (R309) -/
  | rlIndHL
  /-- `RL A`, CB 17 (R308) -/
  | rlA
  /-- `RR B`, CB 18 (R310) -/
  | rrB
  /-- `RR C`, CB 19 (R310) -/
  | rrC
  /-- `RR D`, CB 1A (R310) -/
  | rrD
  /-- `RR E`, CB 1B (R310) -/
  | rrE
  /-- `RR H`, CB 1C (R310) -/
  | rrH
  /-- `RR L`, CB 1D (R310) -/
  | rrL
  /-- `RR (HL)`, CB 1E (R311) -/
  | rrIndHL
  /-- `RR A`, CB 1F (R310) -/
  | rrA
  /-- `SLA B`, CB 20 (R312) -/
  | slaB
  /-- `SLA C`, CB 21 (R312) -/
  | slaC
  /-- `SLA D`, CB 22 (R312) -/
  | slaD
  /-- `SLA E`, CB 23 (R312) -/
  | slaE
  /-- `SLA H`, CB 24 (R312) -/
  | slaH
  /-- `SLA L`, CB 25 (R312) -/
  | slaL
  /-- `SLA (HL)`, CB 26 (R313) -/
  | slaIndHL
  /-- `SLA A`, CB 27 (R312) -/
  | slaA
  /-- `SRA B`, CB 28 (R314) -/
  | sraB
  /-- `SRA C`, CB 29 (R314) -/
  | sraC
  /-- `SRA D`, CB 2A (R314) -/
  | sraD
  /-- `SRA E`, CB 2B (R314) -/
  | sraE
  /-- `SRA H`, CB 2C (R314) -/
  | sraH
  /-- `SRA L`, CB 2D (R314) -/
  | sraL
  /-- `SRA (HL)`, CB 2E (R315) -/
  | sraIndHL
  /-- `SRA A`, CB 2F (R314) -/
  | sraA
  /-- `SWAP B`, CB 30 (R316) -/
  | swapB
  /-- `SWAP C`, CB 31 (R316) -/
  | swapC
  /-- `SWAP D`, CB 32 (R316) -/
  | swapD
  /-- `SWAP E`, CB 33 (R316) -/
  | swapE
  /-- `SWAP H`, CB 34 (R316) -/
  | swapH
  /-- `SWAP L`, CB 35 (R316) -/
  | swapL
  /-- `SWAP (HL)`, CB 36 (R317) -/
  | swapIndHL
  /-- `SWAP A`, CB 37 (R316) -/
  | swapA
  /-- `SRL B`, CB 38 (R318) -/
  | srlB
  /-- `SRL C`, CB 39 (R318) -/
  | srlC
  /-- `SRL D`, CB 3A (R318) -/
  | srlD
  /-- `SRL E`, CB 3B (R318) -/
  | srlE
  /-- `SRL H`, CB 3C (R318) -/
  | srlH
  /-- `SRL L`, CB 3D (R318) -/
  | srlL
  /-- `SRL (HL)`, CB 3E (R319) -/
  | srlIndHL
  /-- `SRL A`, CB 3F (R318) -/
  | srlA
  /-- `BIT 0,B`, CB 40 (R320) -/
  | bit0B
  /-- `BIT 0,C`, CB 41 (R320) -/
  | bit0C
  /-- `BIT 0,D`, CB 42 (R320) -/
  | bit0D
  /-- `BIT 0,E`, CB 43 (R320) -/
  | bit0E
  /-- `BIT 0,H`, CB 44 (R320) -/
  | bit0H
  /-- `BIT 0,L`, CB 45 (R320) -/
  | bit0L
  /-- `BIT 0,(HL)`, CB 46 (R321) -/
  | bit0IndHL
  /-- `BIT 0,A`, CB 47 (R320) -/
  | bit0A
  /-- `BIT 1,B`, CB 48 (R320) -/
  | bit1B
  /-- `BIT 1,C`, CB 49 (R320) -/
  | bit1C
  /-- `BIT 1,D`, CB 4A (R320) -/
  | bit1D
  /-- `BIT 1,E`, CB 4B (R320) -/
  | bit1E
  /-- `BIT 1,H`, CB 4C (R320) -/
  | bit1H
  /-- `BIT 1,L`, CB 4D (R320) -/
  | bit1L
  /-- `BIT 1,(HL)`, CB 4E (R321) -/
  | bit1IndHL
  /-- `BIT 1,A`, CB 4F (R320) -/
  | bit1A
  /-- `BIT 2,B`, CB 50 (R320) -/
  | bit2B
  /-- `BIT 2,C`, CB 51 (R320) -/
  | bit2C
  /-- `BIT 2,D`, CB 52 (R320) -/
  | bit2D
  /-- `BIT 2,E`, CB 53 (R320) -/
  | bit2E
  /-- `BIT 2,H`, CB 54 (R320) -/
  | bit2H
  /-- `BIT 2,L`, CB 55 (R320) -/
  | bit2L
  /-- `BIT 2,(HL)`, CB 56 (R321) -/
  | bit2IndHL
  /-- `BIT 2,A`, CB 57 (R320) -/
  | bit2A
  /-- `BIT 3,B`, CB 58 (R320) -/
  | bit3B
  /-- `BIT 3,C`, CB 59 (R320) -/
  | bit3C
  /-- `BIT 3,D`, CB 5A (R320) -/
  | bit3D
  /-- `BIT 3,E`, CB 5B (R320) -/
  | bit3E
  /-- `BIT 3,H`, CB 5C (R320) -/
  | bit3H
  /-- `BIT 3,L`, CB 5D (R320) -/
  | bit3L
  /-- `BIT 3,(HL)`, CB 5E (R321) -/
  | bit3IndHL
  /-- `BIT 3,A`, CB 5F (R320) -/
  | bit3A
  /-- `BIT 4,B`, CB 60 (R320) -/
  | bit4B
  /-- `BIT 4,C`, CB 61 (R320) -/
  | bit4C
  /-- `BIT 4,D`, CB 62 (R320) -/
  | bit4D
  /-- `BIT 4,E`, CB 63 (R320) -/
  | bit4E
  /-- `BIT 4,H`, CB 64 (R320) -/
  | bit4H
  /-- `BIT 4,L`, CB 65 (R320) -/
  | bit4L
  /-- `BIT 4,(HL)`, CB 66 (R321) -/
  | bit4IndHL
  /-- `BIT 4,A`, CB 67 (R320) -/
  | bit4A
  /-- `BIT 5,B`, CB 68 (R320) -/
  | bit5B
  /-- `BIT 5,C`, CB 69 (R320) -/
  | bit5C
  /-- `BIT 5,D`, CB 6A (R320) -/
  | bit5D
  /-- `BIT 5,E`, CB 6B (R320) -/
  | bit5E
  /-- `BIT 5,H`, CB 6C (R320) -/
  | bit5H
  /-- `BIT 5,L`, CB 6D (R320) -/
  | bit5L
  /-- `BIT 5,(HL)`, CB 6E (R321) -/
  | bit5IndHL
  /-- `BIT 5,A`, CB 6F (R320) -/
  | bit5A
  /-- `BIT 6,B`, CB 70 (R320) -/
  | bit6B
  /-- `BIT 6,C`, CB 71 (R320) -/
  | bit6C
  /-- `BIT 6,D`, CB 72 (R320) -/
  | bit6D
  /-- `BIT 6,E`, CB 73 (R320) -/
  | bit6E
  /-- `BIT 6,H`, CB 74 (R320) -/
  | bit6H
  /-- `BIT 6,L`, CB 75 (R320) -/
  | bit6L
  /-- `BIT 6,(HL)`, CB 76 (R321) -/
  | bit6IndHL
  /-- `BIT 6,A`, CB 77 (R320) -/
  | bit6A
  /-- `BIT 7,B`, CB 78 (R320) -/
  | bit7B
  /-- `BIT 7,C`, CB 79 (R320) -/
  | bit7C
  /-- `BIT 7,D`, CB 7A (R320) -/
  | bit7D
  /-- `BIT 7,E`, CB 7B (R320) -/
  | bit7E
  /-- `BIT 7,H`, CB 7C (R320) -/
  | bit7H
  /-- `BIT 7,L`, CB 7D (R320) -/
  | bit7L
  /-- `BIT 7,(HL)`, CB 7E (R321) -/
  | bit7IndHL
  /-- `BIT 7,A`, CB 7F (R320) -/
  | bit7A
  /-- `RES 0,B`, CB 80 (R322) -/
  | res0B
  /-- `RES 0,C`, CB 81 (R322) -/
  | res0C
  /-- `RES 0,D`, CB 82 (R322) -/
  | res0D
  /-- `RES 0,E`, CB 83 (R322) -/
  | res0E
  /-- `RES 0,H`, CB 84 (R322) -/
  | res0H
  /-- `RES 0,L`, CB 85 (R322) -/
  | res0L
  /-- `RES 0,(HL)`, CB 86 (R323) -/
  | res0IndHL
  /-- `RES 0,A`, CB 87 (R322) -/
  | res0A
  /-- `RES 1,B`, CB 88 (R322) -/
  | res1B
  /-- `RES 1,C`, CB 89 (R322) -/
  | res1C
  /-- `RES 1,D`, CB 8A (R322) -/
  | res1D
  /-- `RES 1,E`, CB 8B (R322) -/
  | res1E
  /-- `RES 1,H`, CB 8C (R322) -/
  | res1H
  /-- `RES 1,L`, CB 8D (R322) -/
  | res1L
  /-- `RES 1,(HL)`, CB 8E (R323) -/
  | res1IndHL
  /-- `RES 1,A`, CB 8F (R322) -/
  | res1A
  /-- `RES 2,B`, CB 90 (R322) -/
  | res2B
  /-- `RES 2,C`, CB 91 (R322) -/
  | res2C
  /-- `RES 2,D`, CB 92 (R322) -/
  | res2D
  /-- `RES 2,E`, CB 93 (R322) -/
  | res2E
  /-- `RES 2,H`, CB 94 (R322) -/
  | res2H
  /-- `RES 2,L`, CB 95 (R322) -/
  | res2L
  /-- `RES 2,(HL)`, CB 96 (R323) -/
  | res2IndHL
  /-- `RES 2,A`, CB 97 (R322) -/
  | res2A
  /-- `RES 3,B`, CB 98 (R322) -/
  | res3B
  /-- `RES 3,C`, CB 99 (R322) -/
  | res3C
  /-- `RES 3,D`, CB 9A (R322) -/
  | res3D
  /-- `RES 3,E`, CB 9B (R322) -/
  | res3E
  /-- `RES 3,H`, CB 9C (R322) -/
  | res3H
  /-- `RES 3,L`, CB 9D (R322) -/
  | res3L
  /-- `RES 3,(HL)`, CB 9E (R323) -/
  | res3IndHL
  /-- `RES 3,A`, CB 9F (R322) -/
  | res3A
  /-- `RES 4,B`, CB A0 (R322) -/
  | res4B
  /-- `RES 4,C`, CB A1 (R322) -/
  | res4C
  /-- `RES 4,D`, CB A2 (R322) -/
  | res4D
  /-- `RES 4,E`, CB A3 (R322) -/
  | res4E
  /-- `RES 4,H`, CB A4 (R322) -/
  | res4H
  /-- `RES 4,L`, CB A5 (R322) -/
  | res4L
  /-- `RES 4,(HL)`, CB A6 (R323) -/
  | res4IndHL
  /-- `RES 4,A`, CB A7 (R322) -/
  | res4A
  /-- `RES 5,B`, CB A8 (R322) -/
  | res5B
  /-- `RES 5,C`, CB A9 (R322) -/
  | res5C
  /-- `RES 5,D`, CB AA (R322) -/
  | res5D
  /-- `RES 5,E`, CB AB (R322) -/
  | res5E
  /-- `RES 5,H`, CB AC (R322) -/
  | res5H
  /-- `RES 5,L`, CB AD (R322) -/
  | res5L
  /-- `RES 5,(HL)`, CB AE (R323) -/
  | res5IndHL
  /-- `RES 5,A`, CB AF (R322) -/
  | res5A
  /-- `RES 6,B`, CB B0 (R322) -/
  | res6B
  /-- `RES 6,C`, CB B1 (R322) -/
  | res6C
  /-- `RES 6,D`, CB B2 (R322) -/
  | res6D
  /-- `RES 6,E`, CB B3 (R322) -/
  | res6E
  /-- `RES 6,H`, CB B4 (R322) -/
  | res6H
  /-- `RES 6,L`, CB B5 (R322) -/
  | res6L
  /-- `RES 6,(HL)`, CB B6 (R323) -/
  | res6IndHL
  /-- `RES 6,A`, CB B7 (R322) -/
  | res6A
  /-- `RES 7,B`, CB B8 (R322) -/
  | res7B
  /-- `RES 7,C`, CB B9 (R322) -/
  | res7C
  /-- `RES 7,D`, CB BA (R322) -/
  | res7D
  /-- `RES 7,E`, CB BB (R322) -/
  | res7E
  /-- `RES 7,H`, CB BC (R322) -/
  | res7H
  /-- `RES 7,L`, CB BD (R322) -/
  | res7L
  /-- `RES 7,(HL)`, CB BE (R323) -/
  | res7IndHL
  /-- `RES 7,A`, CB BF (R322) -/
  | res7A
  /-- `SET 0,B`, CB C0 (R324) -/
  | set0B
  /-- `SET 0,C`, CB C1 (R324) -/
  | set0C
  /-- `SET 0,D`, CB C2 (R324) -/
  | set0D
  /-- `SET 0,E`, CB C3 (R324) -/
  | set0E
  /-- `SET 0,H`, CB C4 (R324) -/
  | set0H
  /-- `SET 0,L`, CB C5 (R324) -/
  | set0L
  /-- `SET 0,(HL)`, CB C6 (R325) -/
  | set0IndHL
  /-- `SET 0,A`, CB C7 (R324) -/
  | set0A
  /-- `SET 1,B`, CB C8 (R324) -/
  | set1B
  /-- `SET 1,C`, CB C9 (R324) -/
  | set1C
  /-- `SET 1,D`, CB CA (R324) -/
  | set1D
  /-- `SET 1,E`, CB CB (R324) -/
  | set1E
  /-- `SET 1,H`, CB CC (R324) -/
  | set1H
  /-- `SET 1,L`, CB CD (R324) -/
  | set1L
  /-- `SET 1,(HL)`, CB CE (R325) -/
  | set1IndHL
  /-- `SET 1,A`, CB CF (R324) -/
  | set1A
  /-- `SET 2,B`, CB D0 (R324) -/
  | set2B
  /-- `SET 2,C`, CB D1 (R324) -/
  | set2C
  /-- `SET 2,D`, CB D2 (R324) -/
  | set2D
  /-- `SET 2,E`, CB D3 (R324) -/
  | set2E
  /-- `SET 2,H`, CB D4 (R324) -/
  | set2H
  /-- `SET 2,L`, CB D5 (R324) -/
  | set2L
  /-- `SET 2,(HL)`, CB D6 (R325) -/
  | set2IndHL
  /-- `SET 2,A`, CB D7 (R324) -/
  | set2A
  /-- `SET 3,B`, CB D8 (R324) -/
  | set3B
  /-- `SET 3,C`, CB D9 (R324) -/
  | set3C
  /-- `SET 3,D`, CB DA (R324) -/
  | set3D
  /-- `SET 3,E`, CB DB (R324) -/
  | set3E
  /-- `SET 3,H`, CB DC (R324) -/
  | set3H
  /-- `SET 3,L`, CB DD (R324) -/
  | set3L
  /-- `SET 3,(HL)`, CB DE (R325) -/
  | set3IndHL
  /-- `SET 3,A`, CB DF (R324) -/
  | set3A
  /-- `SET 4,B`, CB E0 (R324) -/
  | set4B
  /-- `SET 4,C`, CB E1 (R324) -/
  | set4C
  /-- `SET 4,D`, CB E2 (R324) -/
  | set4D
  /-- `SET 4,E`, CB E3 (R324) -/
  | set4E
  /-- `SET 4,H`, CB E4 (R324) -/
  | set4H
  /-- `SET 4,L`, CB E5 (R324) -/
  | set4L
  /-- `SET 4,(HL)`, CB E6 (R325) -/
  | set4IndHL
  /-- `SET 4,A`, CB E7 (R324) -/
  | set4A
  /-- `SET 5,B`, CB E8 (R324) -/
  | set5B
  /-- `SET 5,C`, CB E9 (R324) -/
  | set5C
  /-- `SET 5,D`, CB EA (R324) -/
  | set5D
  /-- `SET 5,E`, CB EB (R324) -/
  | set5E
  /-- `SET 5,H`, CB EC (R324) -/
  | set5H
  /-- `SET 5,L`, CB ED (R324) -/
  | set5L
  /-- `SET 5,(HL)`, CB EE (R325) -/
  | set5IndHL
  /-- `SET 5,A`, CB EF (R324) -/
  | set5A
  /-- `SET 6,B`, CB F0 (R324) -/
  | set6B
  /-- `SET 6,C`, CB F1 (R324) -/
  | set6C
  /-- `SET 6,D`, CB F2 (R324) -/
  | set6D
  /-- `SET 6,E`, CB F3 (R324) -/
  | set6E
  /-- `SET 6,H`, CB F4 (R324) -/
  | set6H
  /-- `SET 6,L`, CB F5 (R324) -/
  | set6L
  /-- `SET 6,(HL)`, CB F6 (R325) -/
  | set6IndHL
  /-- `SET 6,A`, CB F7 (R324) -/
  | set6A
  /-- `SET 7,B`, CB F8 (R324) -/
  | set7B
  /-- `SET 7,C`, CB F9 (R324) -/
  | set7C
  /-- `SET 7,D`, CB FA (R324) -/
  | set7D
  /-- `SET 7,E`, CB FB (R324) -/
  | set7E
  /-- `SET 7,H`, CB FC (R324) -/
  | set7H
  /-- `SET 7,L`, CB FD (R324) -/
  | set7L
  /-- `SET 7,(HL)`, CB FE (R325) -/
  | set7IndHL
  /-- `SET 7,A`, CB FF (R324) -/
  | set7A
  deriving DecidableEq, Repr

end Sys2Proof
end

