-- ==== Sys2Proof/Machine/Ops.lean ====
section
/-! DEFINITION. The named operations over registers and memory: register access (10_state.md R31, R33), the MMU
(20_memory.md R105, R106), the bank controller, OAM DMA and the palette ports, the stack (00_scope.md R12), the
interrupt dispatch (60_exceptions.md R405) and the return from it (46_control.md R339). -/

namespace Sys2Proof.Machine

/-! ### Addresses of the I/O registers (10_state.md R50 to R71) -/

abbrev addrP1 : Nat := 0xFF00
abbrev addrSb : Nat := 0xFF01
abbrev addrSc : Nat := 0xFF02
abbrev addrDiv : Nat := 0xFF04
abbrev addrTima : Nat := 0xFF05
abbrev addrTma : Nat := 0xFF06
abbrev addrTac : Nat := 0xFF07
abbrev addrIf : Nat := 0xFF0F
abbrev addrLcdc : Nat := 0xFF40
abbrev addrStat : Nat := 0xFF41
abbrev addrScy : Nat := 0xFF42
abbrev addrScx : Nat := 0xFF43
abbrev addrLy : Nat := 0xFF44
abbrev addrLyc : Nat := 0xFF45
abbrev addrDma : Nat := 0xFF46
abbrev addrBgp : Nat := 0xFF47
abbrev addrObp0 : Nat := 0xFF48
abbrev addrObp1 : Nat := 0xFF49
abbrev addrWy : Nat := 0xFF4A
abbrev addrWx : Nat := 0xFF4B
abbrev addrKey1 : Nat := 0xFF4D
abbrev addrVbk : Nat := 0xFF4F
abbrev addrBcps : Nat := 0xFF68
abbrev addrBcpd : Nat := 0xFF69
abbrev addrOcps : Nat := 0xFF6A
abbrev addrOcpd : Nat := 0xFF6B
abbrev addrSvbk : Nat := 0xFF70
abbrev addrIe : Nat := 0xFFFF

/-! ### Registers -/

/-- `x[r]` for an 8-bit register (R9). -/
def State.getReg (s : State) : Reg8 → Byte
  | .b => s.cpu.b
  | .c => s.cpu.c
  | .d => s.cpu.d
  | .e => s.cpu.e
  | .h => s.cpu.h
  | .l => s.cpu.l
  | .a => s.cpu.a

/-- `x[r] <- v` for an 8-bit register (R9). -/
def State.setReg (s : State) : Reg8 → Byte → State
  | .b, v => { s with cpu := { s.cpu with b := v } }
  | .c, v => { s with cpu := { s.cpu with c := v } }
  | .d, v => { s with cpu := { s.cpu with d := v } }
  | .e, v => { s with cpu := { s.cpu with e := v } }
  | .h, v => { s with cpu := { s.cpu with h := v } }
  | .l, v => { s with cpu := { s.cpu with l := v } }
  | .a, v => { s with cpu := { s.cpu with a := v } }

/-- `x[F] <- v`: every write of F stores `v & 0xF0` (R33). -/
def State.setF (s : State) (v : Byte) : State := { s with cpu := { s.cpu with f := v &&& 0xF0#8 } }

/-- `x[SP] <- v` (R35). -/
def State.setSp (s : State) (v : Word) : State := { s with cpu := { s.cpu with sp := v } }

/-- `pc <- target` (R36). -/
def State.setPc (s : State) (v : Word) : State := { s with cpu := { s.cpu with pc := v } }

/-- A pair or SP, the first-named register the high byte (R31). -/
def State.getPair (s : State) : Pair → Word
  | .bc => cat s.cpu.b s.cpu.c
  | .de => cat s.cpu.d s.cpu.e
  | .hl => cat s.cpu.h s.cpu.l
  | .sp => s.cpu.sp
  | .af => cat s.cpu.a s.cpu.f

/-- The write of a pair or SP; the write of F in AF is masked (R31, R33). -/
def State.setPair (s : State) : Pair → Word → State
  | .bc, v => { s with cpu := { s.cpu with b := hiByte v, c := loByte v } }
  | .de, v => { s with cpu := { s.cpu with d := hiByte v, e := loByte v } }
  | .hl, v => { s with cpu := { s.cpu with h := hiByte v, l := loByte v } }
  | .sp, v => { s with cpu := { s.cpu with sp := v } }
  | .af, v => { s with cpu := { s.cpu with a := hiByte v, f := loByte v &&& 0xF0#8 } }

/-- `x[HL]`. -/
def State.hl (s : State) : Word := s.getPair .hl

/-! ### The storage behind the MMU -/

/-- `MEM[a]` (R41), the stored byte, without the MMU. -/
def State.mem (s : State) (a : Nat) : Byte := s.ram.mem.read a

/-- `MEM[a] <- v` (R41), without the MMU. -/
def State.setMem (s : State) (a : Nat) (v : Byte) : State :=
  { s with ram := { s.ram with mem := s.ram.mem.write a v } }

/-- `COLOR_MODE = CGB` (R6). -/
def State.isCgb (s : State) : Bool := decide (s.params.colorMode = .cgb)

/-- `RomByte(o)` of R105: the image's byte, 0xFF past its end. -/
def State.romByte (s : State) (o : Nat) : Byte :=
  if o < s.cart.rom.size then s.cart.rom.bytes.read o else 0xFF

/-- `ROM_BANKS = max(2, ceil(ROM_SIZE / 0x4000))` of R105. -/
def State.romBanks (s : State) : Nat := max 2 ((s.cart.rom.size + 0x3FFF) / 0x4000)

/-- `ActiveBank()` of R105: `(bank_hi << 5) | rom_bank_lo` modulo `ROM_BANKS`. -/
def State.activeBank (s : State) : Nat :=
  (s.cart.bankHi.toNat * 32 + s.cart.romBankLo.toNat) % s.romBanks

/-- `WramBank()` of R105. -/
def State.wramBank (s : State) : Nat :=
  let n := (s.mem addrSvbk).toNat % 8
  if n = 0 then 1 else n

/-- CGB mode with VBK bit 0 set: the CPU sees VRAM bank 1 (R68, R105). -/
def State.vram1Selected (s : State) : Bool := s.isCgb && bit (s.mem addrVbk) 0

/-- CGB mode with a WRAM bank above 1 at 0xD000 (R70, R105). -/
def State.wramxSelected (s : State) : Bool := s.isCgb && decide (2 ≤ s.wramBank)

/-- `JoypadRead()` of 60_exceptions.md R441. -/
def State.joypadRead (s : State) : Byte :=
  let p := s.mem addrP1
  let directions := if bit p 4 then 0x0F#8 else s.controls &&& 0x0F#8
  let buttons := if bit p 5 then 0x0F#8 else (s.controls >>> 4) &&& 0x0F#8
  0xC0#8 ||| (p &&& 0x30#8) ||| (0x0F#8 &&& directions &&& buttons)

/-- What a read of 0xFF04 gives (R53, R105): the counter, or with `DIV_READ = draw` the next free value. -/
def State.divRead (s : State) : Byte :=
  match s.params.divRead with
  | .counter => s.timer.div
  | .draw => Config.divDraw s.divDraws

/-- `MemRead(a, 1)` of R105: the byte the MMU gives. -/
def State.memRead (s : State) (a : Word) : Byte :=
  let n := a.toNat
  if n < 0x4000 then s.romByte n
  else if n < 0x8000 then s.romByte (s.activeBank * 0x4000 + (n - 0x4000))
  else if n < 0xA000 ∧ s.vram1Selected = true then s.ram.vram1.read (n - 0x8000)
  else if 0xD000 ≤ n ∧ n < 0xE000 ∧ s.wramxSelected = true then s.ram.wramx.read (s.wramBank * 0x1000 + (n - 0xD000))
  else if n = addrP1 then s.joypadRead
  else if n = addrDiv then s.divRead
  else if s.isCgb = true ∧ n = addrBcpd then s.ram.bgPal.read ((s.mem addrBcps).toNat % 64)
  else if s.isCgb = true ∧ n = addrOcpd then s.ram.objPal.read ((s.mem addrOcps).toNat % 64)
  else s.mem n

/-- A read of 0xFF04 with `DIV_READ = draw` uses up one free value; no other read changes anything (R105, R107). -/
def State.noteRead (s : State) (a : Word) : State :=
  match s.params.divRead with
  | .counter => s
  | .draw => if a.toNat = addrDiv then { s with divDraws := s.divDraws + 1 } else s

/-- `MemRead(a, 1)` as an instruction does it: the byte, and the state after the read. -/
def State.readByte (s : State) (a : Word) : Byte × State := (s.memRead a, s.noteRead a)

/-! ### The bank controller, OAM DMA, the palette ports and the serial hook -/

/-- `BankControllerWrite(a, v)`: R121 to R124. -/
def State.bankWrite (s : State) (n : Nat) (v : Byte) : State :=
  if n < 0x2000 then s
  else if n < 0x4000 then
    let lo := v.setWidth 5
    { s with cart := { s.cart with romBankLo := if lo = 0 then 1 else lo } }
  else if n < 0x6000 then { s with cart := { s.cart with bankHi := v.setWidth 2 } }
  else { s with cart := { s.cart with bankMode := v.setWidth 1 } }

/-- The bytes `i, i + 1, …` of `OamDma(v)`, `left` of them. -/
def State.oamDmaFrom (v : Byte) : Nat → Nat → State → State
  | 0, _, s => s
  | left + 1, i, s =>
    let r := s.readByte (cat v 0 + BitVec.ofNat 16 i)
    State.oamDmaFrom v left (i + 1) (r.2.setMem (0xFE00 + i) r.1)

/-- `OamDma(v)` of R130: 160 bytes from `v << 8`, through MemRead, in ascending order. -/
def State.oamDma (s : State) (v : Byte) : State := State.oamDmaFrom v 160 0 s

/-- The index register after a palette data write (R132): bit 7 advances bits 5-0 modulo 64. -/
def State.advancePaletteIndex (s : State) (idxReg : Nat) : State :=
  let x := s.mem idxReg
  if bit x 7 then s.setMem idxReg ((x &&& 0xC0#8) ||| ((x + 1) &&& 0x3F#8)) else s

/-- `PaletteDataWrite(BGPAL, 0xFF68, v)` of R132. -/
def State.bgPaletteWrite (s : State) (v : Byte) : State :=
  { s with ram := { s.ram with bgPal := s.ram.bgPal.write ((s.mem addrBcps).toNat % 64) v } }.advancePaletteIndex addrBcps

/-- `PaletteDataWrite(OBJPAL, 0xFF6A, v)` of R132. -/
def State.objPaletteWrite (s : State) (v : Byte) : State :=
  { s with ram := { s.ram with objPal := s.ram.objPal.write ((s.mem addrOcps).toNat % 64) v } }.advancePaletteIndex addrOcps

/-- `serial_print(b)` of 60_exceptions.md R443: one byte handed to the host. -/
def State.serialPrint (s : State) (b : Byte) : State :=
  { s with hostSide := { s.hostSide with serialOut := s.hostSide.serialOut ++ [b] } }

/-- `MemWrite(a, 1, v)` of R106. -/
def State.memWrite (s : State) (a : Word) (v : Byte) : State :=
  let n := a.toNat
  if n < 0x8000 then s.bankWrite n v
  else if n < 0xA000 ∧ s.vram1Selected = true then
    { s with ram := { s.ram with vram1 := s.ram.vram1.write (n - 0x8000) v } }
  else if 0xD000 ≤ n ∧ n < 0xE000 ∧ s.wramxSelected = true then
    { s with ram := { s.ram with wramx := s.ram.wramx.write (s.wramBank * 0x1000 + (n - 0xD000)) v } }
  else if n = addrSc then (s.setMem n v).serialPrint (s.mem addrSb)
  else if n = addrDiv then { s with timer := { s.timer with div := 0, divAcc := 0 } }
  else if n = addrStat then s.setMem n (0x80#8 ||| (v &&& 0x78#8) ||| (s.mem n &&& 0x07#8))
  else if n = addrLy then s
  else if n = addrDma then (s.setMem n v).oamDma v
  else if s.isCgb = true ∧ n = addrKey1 then s.setMem n ((s.mem n &&& 0x80#8) ||| (v &&& 0x7F#8))
  else if s.isCgb = true ∧ n = addrBcpd then s.bgPaletteWrite v
  else if s.isCgb = true ∧ n = addrOcpd then s.objPaletteWrite v
  else s.setMem n v

/-! ### Fetching and the stack -/

/-- `Fetch8()` of R11. -/
def State.fetch8 (s : State) : Byte × State :=
  let r := s.readByte s.cpu.pc
  (r.1, r.2.setPc (r.2.cpu.pc + 1))

/-- `Push16(v)` of R12: the high byte at SP - 1, then the low byte at SP - 2. -/
def State.push16 (s : State) (v : Word) : State :=
  let s1 := s.setSp (s.cpu.sp - 1)
  let s2 := s1.memWrite s1.cpu.sp (hiByte v)
  let s3 := s2.setSp (s2.cpu.sp - 1)
  s3.memWrite s3.cpu.sp (loByte v)

/-- `Pop16()` of R12: the low byte at SP, then the high byte at SP + 1. -/
def State.pop16 (s : State) : Word × State :=
  let lo := s.readByte s.cpu.sp
  let s1 := lo.2.setSp (lo.2.cpu.sp + 1)
  let hi := s1.readByte s1.cpu.sp
  (cat hi.1 lo.1, hi.2.setSp (hi.2.cpu.sp + 1))

/-! ### The end of an instruction -/

/-- `step()` returning `n` cycles (R15, R162): the cost is added to the machine step's. -/
def State.addCycles (s : State) (n : Nat) : State := { s with stepCycles := s.stepCycles + n }

/-- The end of an instruction of cost `n`. -/
def State.done (s : State) (n : Nat) : Result := .next (s.addCycles n)

/-! ### Interrupts -/

/-- A device sets IF bit `i` (R57). -/
def State.requestInterrupt (s : State) (i : Nat) : State := s.setMem addrIf (setBit (s.mem addrIf) i)

/-- `P = IE & IF & 0x1F` of R403: the sources both enabled and flagged. -/
def State.pendingInterrupts (s : State) : Byte := s.mem addrIe &&& s.mem addrIf &&& 0x1F#8

/-- The lowest bit number set among bits 0 to 4, the source of highest priority (R402, R405). -/
def lowestSource (p : Byte) : Nat :=
  if bit p 0 then 0
  else if bit p 1 then 1
  else if bit p 2 then 2
  else if bit p 3 then 3
  else 4

/-- The vector of source `i` (R407). -/
def interruptVector (i : Nat) : Word := BitVec.ofNat 16 (0x40 + 8 * i)

/-- Taking an interrupt, steps 1 to 6 of R405: the flag bit, IME and ei_pending are cleared, PC is pushed, PC becomes
the vector, and the dispatch costs `INT_DISPATCH_CYCLES`. -/
def State.takeInterrupt (s : State) (i : Nat) : State :=
  let s1 := s.setMem addrIf (clearBit (s.mem addrIf) i)
  let s2 := { s1 with cpu := { s1.cpu with ime := false, eiPending := false } }
  let s3 := s2.push16 s2.cpu.pc
  (s3.setPc (interruptVector i)).addCycles s3.params.intDispatchCycles

/-- The return from an interrupt handler (46_control.md R339): PC is popped, IME is set at once, a pending EI ends. -/
def State.returnFromInterrupt (s : State) : State :=
  let r := s.pop16
  let s1 := r.2.setPc r.1
  { s1 with cpu := { s1.cpu with ime := true, eiPending := false } }

/-- `PollAndService()` of R405: wakes the CPU on a pending enabled source, and dispatches it when IME is set. -/
def State.pollAndService (s : State) : State :=
  let p := s.pendingInterrupts
  if p = 0 then s
  else
    let s1 := { s with cpu := { s.cpu with halted := false } }
    if s1.cpu.ime then s1.takeInterrupt (lowestSource p) else s1

/-- The EI delay ends (R401, R406): IME is set from ei_pending after the poll. -/
def State.commitEi (s : State) : State :=
  if s.cpu.eiPending then { s with cpu := { s.cpu with ime := true, eiPending := false } } else s

end Sys2Proof.Machine
end

