-- ==== Sys2Proof/Machine/Flags.lean ====
section
/-! DEFINITION. The flags (10_state.md R33, R34) and every flag computation of files 41 to 45: exact integers first,
then the narrowed result and the carries. -/

namespace Sys2Proof.Machine

/-- F.Z, bit 7 of F (R33). -/
def State.flagZ (s : State) : Bool := bit s.cpu.f 7

/-- F.N, bit 6 of F (R33). -/
def State.flagN (s : State) : Bool := bit s.cpu.f 6

/-- F.H, bit 5 of F (R33). -/
def State.flagH (s : State) : Bool := bit s.cpu.f 5

/-- F.C, bit 4 of F (R33). -/
def State.flagC (s : State) : Bool := bit s.cpu.f 4

/-- The byte F of four flags; bits 3-0 are 0 (R33). -/
def packFlags (z n h c : Bool) : Byte :=
  (if z then 0x80#8 else 0) ||| (if n then 0x40#8 else 0) ||| (if h then 0x20#8 else 0) ||| (if c then 0x10#8 else 0)

/-- A flag update of all four flags, in the order Z N H C of R14. An instruction that leaves a flag unchanged passes
its old value. -/
def State.setFlags (s : State) (z n h c : Bool) : State :=
  { s with cpu := { s.cpu with f := packFlags z n h c } }

/-- A result with its Z, H and C, as R241 and R242 return them. -/
structure ArithResult where
  res : Byte
  z : Bool
  h : Bool
  c : Bool
  deriving DecidableEq, Repr

/-- `Add8(a, b, cin)` of 42_alu8.md R241. -/
def add8 (a b : Byte) (cin : Bool) : ArithResult :=
  let sum := a.toNat + b.toNat + cin.toNat
  let res := BitVec.ofNat 8 sum
  { res := res
    z := decide (res = 0)
    h := decide (a.toNat % 16 + b.toNat % 16 + cin.toNat > 0x0F)
    c := decide (sum > 0xFF) }

/-- `Sub8(a, b, cin)` of 42_alu8.md R242. -/
def sub8 (a b : Byte) (cin : Bool) : ArithResult :=
  let res := BitVec.ofInt 8 ((a.toNat : Int) - (b.toNat : Int) - (cin.toNat : Int))
  { res := res
    z := decide (res = 0)
    h := decide (a.toNat % 16 < b.toNat % 16 + cin.toNat)
    c := decide (a.toNat < b.toNat + cin.toNat) }

/-- The logic operations set Z from the result, N = 0, C = 0, and H as given (R243). -/
def State.logicA (s : State) (res : Byte) (h : Bool) : State :=
  (s.setReg .a res).setFlags (decide (res = 0)) false h false

/-- The eight operations of the ALU group on A and an operand `v` (R240, R250 to R273). -/
def State.alu (s : State) (op : AluOp) (v : Byte) : State :=
  match op with
  | .add =>
    let r := add8 s.cpu.a v false
    (s.setReg .a r.res).setFlags r.z false r.h r.c
  | .adc =>
    let r := add8 s.cpu.a v s.flagC
    (s.setReg .a r.res).setFlags r.z false r.h r.c
  | .sub =>
    let r := sub8 s.cpu.a v false
    (s.setReg .a r.res).setFlags r.z true r.h r.c
  | .sbc =>
    let r := sub8 s.cpu.a v s.flagC
    (s.setReg .a r.res).setFlags r.z true r.h r.c
  | .and => s.logicA (s.cpu.a &&& v) true
  | .xor => s.logicA (s.cpu.a ^^^ v) false
  | .or => s.logicA (s.cpu.a ||| v) false
  | .cp =>
    let r := sub8 s.cpu.a v false
    s.setFlags r.z true r.h r.c

/-- The flags of INC on a byte `v` (R274): `Z 0 H -`. -/
def State.incFlags (s : State) (v : Byte) : State :=
  s.setFlags (decide (v + 1 = 0)) false (decide (v.toNat % 16 = 0x0F)) s.flagC

/-- The flags of DEC on a byte `v` (R276): `Z 1 H -`. -/
def State.decFlags (s : State) (v : Byte) : State :=
  s.setFlags (decide (v - 1 = 0)) true (decide (v.toNat % 16 = 0)) s.flagC

/-- What DAA leaves in A and C (R278), from A and the flags N, H, C. -/
def daa (a : Byte) (n h c : Bool) : Byte × Bool :=
  if n then
    let a1 := if c then a - 0x60#8 else a
    (if h then a1 - 0x06#8 else a1, c)
  else
    let high := c || decide (a.toNat > 0x99)
    let a1 := if high then a + 0x60#8 else a
    (if h || decide (a1.toNat % 16 > 9) then a1 + 0x06#8 else a1, high)

/-- `SPPlusE(sp, e)` of 41_load16.md R237: the signed sum, and the carries of the unsigned low-byte addition. -/
def spPlusE (sp : Word) (e : Byte) : Word × Bool × Bool :=
  (sp + sext16 e, decide (sp.toNat % 16 + e.toNat % 16 > 0x0F), decide (sp.toNat % 256 + e.toNat > 0xFF))

/-- The flags of ADD HL,rp (43_alu16.md R290): `- 0 H C`. -/
def State.addHlFlags (s : State) (a b : Word) : State :=
  s.setFlags s.flagZ false (decide (a.toNat % 0x1000 + b.toNat % 0x1000 > 0x0FFF)) (decide (a.toNat + b.toNat > 0xFFFF))

/-- The rotates, shifts and SWAP on a byte with the old carry (44_rotate_shift.md R300 to R319): the result and C. -/
def rotate (op : RotOp) (v : Byte) (cin : Bool) : Byte × Bool :=
  match op with
  | .rlc => ((v <<< 1) ||| (if bit v 7 then 0x01#8 else 0), bit v 7)
  | .rrc => ((v >>> 1) ||| (if bit v 0 then 0x80#8 else 0), bit v 0)
  | .rl => ((v <<< 1) ||| (if cin then 0x01#8 else 0), bit v 7)
  | .rr => ((v >>> 1) ||| (if cin then 0x80#8 else 0), bit v 0)
  | .sla => (v <<< 1, bit v 7)
  | .sra => ((v >>> 1) ||| (v &&& 0x80#8), bit v 0)
  | .swap => ((v <<< 4) ||| (v >>> 4), false)
  | .srl => (v >>> 1, bit v 0)

/-- The flags of a CB rotate or shift: `Z 0 0 C`. -/
def State.rotateFlags (s : State) (r : Byte × Bool) : State := s.setFlags (decide (r.1 = 0)) false false r.2

/-- The flags of BIT on a byte `v` (45_bit.md R320): `Z 0 1 -`, Z the complement of the tested bit. -/
def State.bitFlags (s : State) (b : Nat) (v : Byte) : State := s.setFlags (!bit v b) false true s.flagC

end Sys2Proof.Machine
end

