-- ==== Sys2Proof/Machine/Operands.lean ====
section
/-! DEFINITION. The operand forms of the instruction families, each shared operation once: register, immediate, (HL)
and the other addresses, pairs, conditions, and the CB operand (30_encoding.md R163 to R167, 44_rotate_shift.md R296). -/

namespace Sys2Proof.Machine

/-! ### Operand fields -/

/-- The register of an operand field value other than 6 (R163). -/
def regOfField : Nat → Reg8
  | 0 => .b
  | 1 => .c
  | 2 => .d
  | 3 => .e
  | 4 => .h
  | 5 => .l
  | _ => .a

/-- The CB rotate and shift operation of a field value (R166). -/
def rotOfField : Nat → RotOp
  | 0 => .rlc
  | 1 => .rrc
  | 2 => .rl
  | 3 => .rr
  | 4 => .sla
  | 5 => .sra
  | 6 => .swap
  | _ => .srl

/-- Whether a condition holds (46_control.md R326). -/
def State.cond (s : State) : Cond → Bool
  | .nz => !s.flagZ
  | .z => s.flagZ
  | .nc => !s.flagC
  | .c => s.flagC

/-! ### 8-bit loads (40_load8.md) -/

/-- `LD r,r'` (R200). -/
def ldRegReg (r r' : Reg8) (s : State) : Result := (s.setReg r (s.getReg r')).done 4

/-- `LD r,d8` (R201). -/
def ldRegImm (r : Reg8) (d8 : Byte) (s : State) : Result := (s.setReg r d8).done 8

/-- `LD r,(HL)` (R202). -/
def ldRegHL (r : Reg8) (s : State) : Result :=
  let v := s.readByte s.hl
  (v.2.setReg r v.1).done 8

/-- `LD (HL),r` (R203). -/
def ldHLReg (r : Reg8) (s : State) : Result := (s.memWrite s.hl (s.getReg r)).done 8

/-- A load of A from an address, at a cost of `n` (R205, R206, R209, R211, R213). -/
def ldAFrom (a : Word) (n : Nat) (s : State) : Result :=
  let v := s.readByte a
  (v.2.setReg .a v.1).done n

/-- A store of A to an address, at a cost of `n` (R207, R208, R210, R212, R214). -/
def stATo (a : Word) (n : Nat) (s : State) : Result := (s.memWrite a s.cpu.a).done n

/-- A load of A from (HL), after which HL moves by `step` (R216, R218). -/
def ldAMoveHL (step : Word) (s : State) : Result :=
  let v := s.readByte s.hl
  let s1 := v.2.setReg .a v.1
  (s1.setPair .hl (s1.hl + step)).done 8

/-- A store of A to (HL), after which HL moves by `step` (R215, R217). -/
def stAMoveHL (step : Word) (s : State) : Result :=
  let s1 := s.memWrite s.hl s.cpu.a
  (s1.setPair .hl (s1.hl + step)).done 8

/-! ### 16-bit loads (41_load16.md) -/

/-- `LD rp,d16` (R230). -/
def ldPairImm (p : Pair) (d16 : Word) (s : State) : Result := (s.setPair p d16).done 12

/-- `PUSH rp2` (R233). -/
def pushPair (p : Pair) (s : State) : Result := (s.push16 (s.getPair p)).done 16

/-- `POP rp2` (R234, R235); a POP into AF masks F. -/
def popPair (p : Pair) (s : State) : Result :=
  let r := s.pop16
  (r.2.setPair p r.1).done 12

/-! ### 8-bit arithmetic and logic (42_alu8.md) -/

/-- The register form of an ALU operation (R240). -/
def aluReg (op : AluOp) (r : Reg8) (s : State) : Result := (s.alu op (s.getReg r)).done 4

/-- The (HL) form of an ALU operation (R240). -/
def aluHL (op : AluOp) (s : State) : Result :=
  let v := s.readByte s.hl
  (v.2.alu op v.1).done 8

/-- The immediate form of an ALU operation (R240). -/
def aluImm (op : AluOp) (d8 : Byte) (s : State) : Result := (s.alu op d8).done 8

/-- `INC r` (R274). -/
def incReg (r : Reg8) (s : State) : Result :=
  ((s.setReg r (s.getReg r + 1)).incFlags (s.getReg r)).done 4

/-- `DEC r` (R276). -/
def decReg (r : Reg8) (s : State) : Result :=
  ((s.setReg r (s.getReg r - 1)).decFlags (s.getReg r)).done 4

/-! ### 16-bit arithmetic (43_alu16.md) -/

/-- `ADD HL,rp` (R290). -/
def addHLPair (p : Pair) (s : State) : Result :=
  ((s.setPair .hl (s.hl + s.getPair p)).addHlFlags s.hl (s.getPair p)).done 8

/-- `INC rp` (R291). -/
def incPair (p : Pair) (s : State) : Result := (s.setPair p (s.getPair p + 1)).done 8

/-- `DEC rp` (R292). -/
def decPair (p : Pair) (s : State) : Result := (s.setPair p (s.getPair p - 1)).done 8

/-! ### Rotates, shifts and bits (44_rotate_shift.md, 45_bit.md) -/

/-- An accumulator rotate (R300 to R303): Z, N and H are cleared. -/
def rotateA (op : RotOp) (s : State) : Result :=
  let r := rotate op s.cpu.a s.flagC
  ((s.setReg .a r.1).setFlags false false false r.2).done 4

/-- A CB rotate or shift of a register (R304 to R318, even). -/
def rotateReg (op : RotOp) (x : Reg8) (s : State) : Result :=
  let r := rotate op (s.getReg x) s.flagC
  ((s.setReg x r.1).rotateFlags r).done 8

/-- A CB rotate or shift of the byte at HL (R305 to R319, odd): read once, then written once. -/
def rotateHL (op : RotOp) (s : State) : Result :=
  let v := s.readByte s.hl
  let r := rotate op v.1 v.2.flagC
  ((v.2.memWrite v.2.hl r.1).rotateFlags r).done 16

/-- `BIT b,r` (R320). -/
def bitReg (b : Nat) (x : Reg8) (s : State) : Result := (s.bitFlags b (s.getReg x)).done 8

/-- `BIT b,(HL)` (R321). -/
def bitHL (b : Nat) (s : State) : Result :=
  let v := s.readByte s.hl
  (v.2.bitFlags b v.1).done 12

/-- `RES b,r` (R322). -/
def resReg (b : Nat) (x : Reg8) (s : State) : Result := (s.setReg x (clearBit (s.getReg x) b)).done 8

/-- `RES b,(HL)` (R323): the value is always written back. -/
def resHL (b : Nat) (s : State) : Result :=
  let v := s.readByte s.hl
  (v.2.memWrite v.2.hl (clearBit v.1 b)).done 16

/-- `SET b,r` (R324). -/
def setReg8Bit (b : Nat) (x : Reg8) (s : State) : Result := (s.setReg x (setBit (s.getReg x) b)).done 8

/-- `SET b,(HL)` (R325): the value is always written back. -/
def setHLBit (b : Nat) (s : State) : Result :=
  let v := s.readByte s.hl
  (v.2.memWrite v.2.hl (setBit v.1 b)).done 16

/-- `ExecuteCB(cbop)` of 30_encoding.md R162 by the fields x, y, z of the byte (R161, R171): x = 0 rotates and shifts,
1 BIT, 2 RES, 3 SET; y the operation or the bit number; z the operand, 6 being (HL). -/
def executeCb (cbop : Byte) (s : State) : Result :=
  let x := cbop.toNat / 64
  let y := cbop.toNat / 8 % 8
  let z := cbop.toNat % 8
  if z = 6 then
    match x with
    | 0 => rotateHL (rotOfField y) s
    | 1 => bitHL y s
    | 2 => resHL y s
    | _ => setHLBit y s
  else
    match x with
    | 0 => rotateReg (rotOfField y) (regOfField z) s
    | 1 => bitReg y (regOfField z) s
    | 2 => resReg y (regOfField z) s
    | _ => setReg8Bit y (regOfField z) s

/-! ### Control transfer (46_control.md) -/

/-- `JP cc,a16` (R331). -/
def jpCond (cc : Cond) (a16 : Word) (s : State) : Result :=
  if s.cond cc then (s.setPc a16).done 16 else s.done 12

/-- The target of a relative jump (R333): PC, already past the instruction, plus the signed displacement. -/
def State.relTarget (s : State) (e : Byte) : Word := s.cpu.pc + sext16 e

/-- `JR cc,e` (R334). -/
def jrCond (cc : Cond) (e : Byte) (s : State) : Result :=
  if s.cond cc then (s.setPc (s.relTarget e)).done 12 else s.done 8

/-- A push of PC and a jump, as CALL and RST do it (R335, R340). -/
def State.callTo (s : State) (target : Word) : State := (s.push16 s.cpu.pc).setPc target

/-- `CALL cc,a16` (R336). -/
def callCond (cc : Cond) (a16 : Word) (s : State) : Result :=
  if s.cond cc then (s.callTo a16).done 24 else s.done 12

/-- `PC <- Pop16()` (R337). -/
def State.returnPc (s : State) : State :=
  let r := s.pop16
  r.2.setPc r.1

/-- `RET cc` (R338). -/
def retCond (cc : Cond) (s : State) : Result :=
  if s.cond cc then s.returnPc.done 20 else s.done 8

/-- `RST t` (R340): a call of `t * 8`. -/
def rstTo (t : Nat) (s : State) : Result := (s.callTo (BitVec.ofNat 16 (t * 8))).done 16

end Sys2Proof.Machine
end

