-- ==== Sys2Proof/Machine/Alu16.lean ====
section
/-! DEFINITION. 16-bit arithmetic (43_alu16.md R290 to R293). One definition an
instruction, run with PC past the whole instruction (00_scope.md R16). -/

namespace Sys2Proof.Machine

/-- `INC BC` (R291). -/
def execIncBC (s : State) : Result := incPair .bc s

/-- `ADD HL,BC` (R290). -/
def execAddHLBC (s : State) : Result := addHLPair .bc s

/-- `DEC BC` (R292). -/
def execDecBC (s : State) : Result := decPair .bc s

/-- `INC DE` (R291). -/
def execIncDE (s : State) : Result := incPair .de s

/-- `ADD HL,DE` (R290). -/
def execAddHLDE (s : State) : Result := addHLPair .de s

/-- `DEC DE` (R292). -/
def execDecDE (s : State) : Result := decPair .de s

/-- `INC HL` (R291). -/
def execIncHL (s : State) : Result := incPair .hl s

/-- `ADD HL,HL` (R290). -/
def execAddHLHL (s : State) : Result := addHLPair .hl s

/-- `DEC HL` (R292). -/
def execDecHL (s : State) : Result := decPair .hl s

/-- `INC SP` (R291). -/
def execIncSP (s : State) : Result := incPair .sp s

/-- `ADD HL,SP` (R290). -/
def execAddHLSP (s : State) : Result := addHLPair .sp s

/-- `DEC SP` (R292). -/
def execDecSP (s : State) : Result := decPair .sp s

/-- `ADD SP,e` (R293). -/
def execAddSPDisp (e : Byte) (s : State) : Result :=
  let r := spPlusE s.cpu.sp e
  ((s.setSp r.1).setFlags false false r.2.1 r.2.2).done 16

end Sys2Proof.Machine
end

