-- ==== Sys2Proof/Machine/Alu8.lean ====
section
/-! DEFINITION. 8-bit arithmetic and logic (42_alu8.md R250 to R281). One definition an
instruction, run with PC past the whole instruction (00_scope.md R16). -/

namespace Sys2Proof.Machine

/-- `INC B` (R274). -/
def execIncB (s : State) : Result := incReg .b s

/-- `DEC B` (R276). -/
def execDecB (s : State) : Result := decReg .b s

/-- `INC C` (R274). -/
def execIncC (s : State) : Result := incReg .c s

/-- `DEC C` (R276). -/
def execDecC (s : State) : Result := decReg .c s

/-- `INC D` (R274). -/
def execIncD (s : State) : Result := incReg .d s

/-- `DEC D` (R276). -/
def execDecD (s : State) : Result := decReg .d s

/-- `INC E` (R274). -/
def execIncE (s : State) : Result := incReg .e s

/-- `DEC E` (R276). -/
def execDecE (s : State) : Result := decReg .e s

/-- `INC H` (R274). -/
def execIncH (s : State) : Result := incReg .h s

/-- `DEC H` (R276). -/
def execDecH (s : State) : Result := decReg .h s

/-- `DAA` (R278). -/
def execDaa (s : State) : Result :=
  let r := daa s.cpu.a s.flagN s.flagH s.flagC
  ((s.setReg .a r.1).setFlags (decide (r.1 = 0)) s.flagN false r.2).done 4

/-- `INC L` (R274). -/
def execIncL (s : State) : Result := incReg .l s

/-- `DEC L` (R276). -/
def execDecL (s : State) : Result := decReg .l s

/-- `CPL` (R279). -/
def execCpl (s : State) : Result :=
  ((s.setReg .a (s.cpu.a ^^^ 0xFF#8)).setFlags s.flagZ true true s.flagC).done 4

/-- `INC (HL)` (R275). -/
def execIncIndHL (s : State) : Result :=
  let v := s.readByte s.hl
  ((v.2.memWrite v.2.hl (v.1 + 1)).incFlags v.1).done 12

/-- `DEC (HL)` (R277). -/
def execDecIndHL (s : State) : Result :=
  let v := s.readByte s.hl
  ((v.2.memWrite v.2.hl (v.1 - 1)).decFlags v.1).done 12

/-- `SCF` (R280). -/
def execScf (s : State) : Result := (s.setFlags s.flagZ false false true).done 4

/-- `INC A` (R274). -/
def execIncA (s : State) : Result := incReg .a s

/-- `DEC A` (R276). -/
def execDecA (s : State) : Result := decReg .a s

/-- `CCF` (R281). -/
def execCcf (s : State) : Result := (s.setFlags s.flagZ false false (!s.flagC)).done 4

/-- `ADD A,B` (R250). -/
def execAddAB (s : State) : Result := aluReg .add .b s

/-- `ADD A,C` (R250). -/
def execAddAC (s : State) : Result := aluReg .add .c s

/-- `ADD A,D` (R250). -/
def execAddAD (s : State) : Result := aluReg .add .d s

/-- `ADD A,E` (R250). -/
def execAddAE (s : State) : Result := aluReg .add .e s

/-- `ADD A,H` (R250). -/
def execAddAH (s : State) : Result := aluReg .add .h s

/-- `ADD A,L` (R250). -/
def execAddAL (s : State) : Result := aluReg .add .l s

/-- `ADD A,(HL)` (R251). -/
def execAddAIndHL (s : State) : Result := aluHL .add s

/-- `ADD A,A` (R250). -/
def execAddAA (s : State) : Result := aluReg .add .a s

/-- `ADC A,B` (R253). -/
def execAdcAB (s : State) : Result := aluReg .adc .b s

/-- `ADC A,C` (R253). -/
def execAdcAC (s : State) : Result := aluReg .adc .c s

/-- `ADC A,D` (R253). -/
def execAdcAD (s : State) : Result := aluReg .adc .d s

/-- `ADC A,E` (R253). -/
def execAdcAE (s : State) : Result := aluReg .adc .e s

/-- `ADC A,H` (R253). -/
def execAdcAH (s : State) : Result := aluReg .adc .h s

/-- `ADC A,L` (R253). -/
def execAdcAL (s : State) : Result := aluReg .adc .l s

/-- `ADC A,(HL)` (R254). -/
def execAdcAIndHL (s : State) : Result := aluHL .adc s

/-- `ADC A,A` (R253). -/
def execAdcAA (s : State) : Result := aluReg .adc .a s

/-- `SUB B` (R256). -/
def execSubB (s : State) : Result := aluReg .sub .b s

/-- `SUB C` (R256). -/
def execSubC (s : State) : Result := aluReg .sub .c s

/-- `SUB D` (R256). -/
def execSubD (s : State) : Result := aluReg .sub .d s

/-- `SUB E` (R256). -/
def execSubE (s : State) : Result := aluReg .sub .e s

/-- `SUB H` (R256). -/
def execSubH (s : State) : Result := aluReg .sub .h s

/-- `SUB L` (R256). -/
def execSubL (s : State) : Result := aluReg .sub .l s

/-- `SUB (HL)` (R257). -/
def execSubIndHL (s : State) : Result := aluHL .sub s

/-- `SUB A` (R256). -/
def execSubA (s : State) : Result := aluReg .sub .a s

/-- `SBC A,B` (R259). -/
def execSbcAB (s : State) : Result := aluReg .sbc .b s

/-- `SBC A,C` (R259). -/
def execSbcAC (s : State) : Result := aluReg .sbc .c s

/-- `SBC A,D` (R259). -/
def execSbcAD (s : State) : Result := aluReg .sbc .d s

/-- `SBC A,E` (R259). -/
def execSbcAE (s : State) : Result := aluReg .sbc .e s

/-- `SBC A,H` (R259). -/
def execSbcAH (s : State) : Result := aluReg .sbc .h s

/-- `SBC A,L` (R259). -/
def execSbcAL (s : State) : Result := aluReg .sbc .l s

/-- `SBC A,(HL)` (R260). -/
def execSbcAIndHL (s : State) : Result := aluHL .sbc s

/-- `SBC A,A` (R259). -/
def execSbcAA (s : State) : Result := aluReg .sbc .a s

/-- `AND B` (R262). -/
def execAndB (s : State) : Result := aluReg .and .b s

/-- `AND C` (R262). -/
def execAndC (s : State) : Result := aluReg .and .c s

/-- `AND D` (R262). -/
def execAndD (s : State) : Result := aluReg .and .d s

/-- `AND E` (R262). -/
def execAndE (s : State) : Result := aluReg .and .e s

/-- `AND H` (R262). -/
def execAndH (s : State) : Result := aluReg .and .h s

/-- `AND L` (R262). -/
def execAndL (s : State) : Result := aluReg .and .l s

/-- `AND (HL)` (R263). -/
def execAndIndHL (s : State) : Result := aluHL .and s

/-- `AND A` (R262). -/
def execAndA (s : State) : Result := aluReg .and .a s

/-- `XOR B` (R265). -/
def execXorB (s : State) : Result := aluReg .xor .b s

/-- `XOR C` (R265). -/
def execXorC (s : State) : Result := aluReg .xor .c s

/-- `XOR D` (R265). -/
def execXorD (s : State) : Result := aluReg .xor .d s

/-- `XOR E` (R265). -/
def execXorE (s : State) : Result := aluReg .xor .e s

/-- `XOR H` (R265). -/
def execXorH (s : State) : Result := aluReg .xor .h s

/-- `XOR L` (R265). -/
def execXorL (s : State) : Result := aluReg .xor .l s

/-- `XOR (HL)` (R266). -/
def execXorIndHL (s : State) : Result := aluHL .xor s

/-- `XOR A` (R265). -/
def execXorA (s : State) : Result := aluReg .xor .a s

/-- `OR B` (R268). -/
def execOrB (s : State) : Result := aluReg .or .b s

/-- `OR C` (R268). -/
def execOrC (s : State) : Result := aluReg .or .c s

/-- `OR D` (R268). -/
def execOrD (s : State) : Result := aluReg .or .d s

/-- `OR E` (R268). -/
def execOrE (s : State) : Result := aluReg .or .e s

/-- `OR H` (R268). -/
def execOrH (s : State) : Result := aluReg .or .h s

/-- `OR L` (R268). -/
def execOrL (s : State) : Result := aluReg .or .l s

/-- `OR (HL)` (R269). -/
def execOrIndHL (s : State) : Result := aluHL .or s

/-- `OR A` (R268). -/
def execOrA (s : State) : Result := aluReg .or .a s

/-- `CP B` (R271). -/
def execCpB (s : State) : Result := aluReg .cp .b s

/-- `CP C` (R271). -/
def execCpC (s : State) : Result := aluReg .cp .c s

/-- `CP D` (R271). -/
def execCpD (s : State) : Result := aluReg .cp .d s

/-- `CP E` (R271). -/
def execCpE (s : State) : Result := aluReg .cp .e s

/-- `CP H` (R271). -/
def execCpH (s : State) : Result := aluReg .cp .h s

/-- `CP L` (R271). -/
def execCpL (s : State) : Result := aluReg .cp .l s

/-- `CP (HL)` (R272). -/
def execCpIndHL (s : State) : Result := aluHL .cp s

/-- `CP A` (R271). -/
def execCpA (s : State) : Result := aluReg .cp .a s

/-- `ADD A,d8` (R252). -/
def execAddAD8 (d8 : Byte) (s : State) : Result := aluImm .add d8 s

/-- `ADC A,d8` (R255). -/
def execAdcAD8 (d8 : Byte) (s : State) : Result := aluImm .adc d8 s

/-- `SUB d8` (R258). -/
def execSubD8 (d8 : Byte) (s : State) : Result := aluImm .sub d8 s

/-- `SBC A,d8` (R261). -/
def execSbcAD8 (d8 : Byte) (s : State) : Result := aluImm .sbc d8 s

/-- `AND d8` (R264). -/
def execAndD8 (d8 : Byte) (s : State) : Result := aluImm .and d8 s

/-- `XOR d8` (R267). -/
def execXorD8 (d8 : Byte) (s : State) : Result := aluImm .xor d8 s

/-- `OR d8` (R270). -/
def execOrD8 (d8 : Byte) (s : State) : Result := aluImm .or d8 s

/-- `CP d8` (R273). -/
def execCpD8 (d8 : Byte) (s : State) : Result := aluImm .cp d8 s

end Sys2Proof.Machine
end

