-- ==== Sys2Proof/Machine/Bit.lean ====
section
/-! DEFINITION. Single-bit test, reset and set (45_bit.md R320 to R325). One definition an
instruction, run with PC past the whole instruction (00_scope.md R16). -/

namespace Sys2Proof.Machine

/-- `BIT 0,B` (R320). -/
def execBit0B (s : State) : Result := bitReg 0 .b s

/-- `BIT 0,C` (R320). -/
def execBit0C (s : State) : Result := bitReg 0 .c s

/-- `BIT 0,D` (R320). -/
def execBit0D (s : State) : Result := bitReg 0 .d s

/-- `BIT 0,E` (R320). -/
def execBit0E (s : State) : Result := bitReg 0 .e s

/-- `BIT 0,H` (R320). -/
def execBit0H (s : State) : Result := bitReg 0 .h s

/-- `BIT 0,L` (R320). -/
def execBit0L (s : State) : Result := bitReg 0 .l s

/-- `BIT 0,(HL)` (R321). -/
def execBit0IndHL (s : State) : Result := bitHL 0 s

/-- `BIT 0,A` (R320). -/
def execBit0A (s : State) : Result := bitReg 0 .a s

/-- `BIT 1,B` (R320). -/
def execBit1B (s : State) : Result := bitReg 1 .b s

/-- `BIT 1,C` (R320). -/
def execBit1C (s : State) : Result := bitReg 1 .c s

/-- `BIT 1,D` (R320). -/
def execBit1D (s : State) : Result := bitReg 1 .d s

/-- `BIT 1,E` (R320). -/
def execBit1E (s : State) : Result := bitReg 1 .e s

/-- `BIT 1,H` (R320). -/
def execBit1H (s : State) : Result := bitReg 1 .h s

/-- `BIT 1,L` (R320). -/
def execBit1L (s : State) : Result := bitReg 1 .l s

/-- `BIT 1,(HL)` (R321). -/
def execBit1IndHL (s : State) : Result := bitHL 1 s

/-- `BIT 1,A` (R320). -/
def execBit1A (s : State) : Result := bitReg 1 .a s

/-- `BIT 2,B` (R320). -/
def execBit2B (s : State) : Result := bitReg 2 .b s

/-- `BIT 2,C` (R320). -/
def execBit2C (s : State) : Result := bitReg 2 .c s

/-- `BIT 2,D` (R320). -/
def execBit2D (s : State) : Result := bitReg 2 .d s

/-- `BIT 2,E` (R320). -/
def execBit2E (s : State) : Result := bitReg 2 .e s

/-- `BIT 2,H` (R320). -/
def execBit2H (s : State) : Result := bitReg 2 .h s

/-- `BIT 2,L` (R320). -/
def execBit2L (s : State) : Result := bitReg 2 .l s

/-- `BIT 2,(HL)` (R321). -/
def execBit2IndHL (s : State) : Result := bitHL 2 s

/-- `BIT 2,A` (R320). -/
def execBit2A (s : State) : Result := bitReg 2 .a s

/-- `BIT 3,B` (R320). -/
def execBit3B (s : State) : Result := bitReg 3 .b s

/-- `BIT 3,C` (R320). -/
def execBit3C (s : State) : Result := bitReg 3 .c s

/-- `BIT 3,D` (R320). -/
def execBit3D (s : State) : Result := bitReg 3 .d s

/-- `BIT 3,E` (R320). -/
def execBit3E (s : State) : Result := bitReg 3 .e s

/-- `BIT 3,H` (R320). -/
def execBit3H (s : State) : Result := bitReg 3 .h s

/-- `BIT 3,L` (R320). -/
def execBit3L (s : State) : Result := bitReg 3 .l s

/-- `BIT 3,(HL)` (R321). -/
def execBit3IndHL (s : State) : Result := bitHL 3 s

/-- `BIT 3,A` (R320). -/
def execBit3A (s : State) : Result := bitReg 3 .a s

/-- `BIT 4,B` (R320). -/
def execBit4B (s : State) : Result := bitReg 4 .b s

/-- `BIT 4,C` (R320). -/
def execBit4C (s : State) : Result := bitReg 4 .c s

/-- `BIT 4,D` (R320). -/
def execBit4D (s : State) : Result := bitReg 4 .d s

/-- `BIT 4,E` (R320). -/
def execBit4E (s : State) : Result := bitReg 4 .e s

/-- `BIT 4,H` (R320). -/
def execBit4H (s : State) : Result := bitReg 4 .h s

/-- `BIT 4,L` (R320). -/
def execBit4L (s : State) : Result := bitReg 4 .l s

/-- `BIT 4,(HL)` (R321). -/
def execBit4IndHL (s : State) : Result := bitHL 4 s

/-- `BIT 4,A` (R320). -/
def execBit4A (s : State) : Result := bitReg 4 .a s

/-- `BIT 5,B` (R320). -/
def execBit5B (s : State) : Result := bitReg 5 .b s

/-- `BIT 5,C` (R320). -/
def execBit5C (s : State) : Result := bitReg 5 .c s

/-- `BIT 5,D` (R320). -/
def execBit5D (s : State) : Result := bitReg 5 .d s

/-- `BIT 5,E` (R320). -/
def execBit5E (s : State) : Result := bitReg 5 .e s

/-- `BIT 5,H` (R320). -/
def execBit5H (s : State) : Result := bitReg 5 .h s

/-- `BIT 5,L` (R320). -/
def execBit5L (s : State) : Result := bitReg 5 .l s

/-- `BIT 5,(HL)` (R321). -/
def execBit5IndHL (s : State) : Result := bitHL 5 s

/-- `BIT 5,A` (R320). -/
def execBit5A (s : State) : Result := bitReg 5 .a s

/-- `BIT 6,B` (R320). -/
def execBit6B (s : State) : Result := bitReg 6 .b s

/-- `BIT 6,C` (R320). -/
def execBit6C (s : State) : Result := bitReg 6 .c s

/-- `BIT 6,D` (R320). -/
def execBit6D (s : State) : Result := bitReg 6 .d s

/-- `BIT 6,E` (R320). -/
def execBit6E (s : State) : Result := bitReg 6 .e s

/-- `BIT 6,H` (R320). -/
def execBit6H (s : State) : Result := bitReg 6 .h s

/-- `BIT 6,L` (R320). -/
def execBit6L (s : State) : Result := bitReg 6 .l s

/-- `BIT 6,(HL)` (R321). -/
def execBit6IndHL (s : State) : Result := bitHL 6 s

/-- `BIT 6,A` (R320). -/
def execBit6A (s : State) : Result := bitReg 6 .a s

/-- `BIT 7,B` (R320). -/
def execBit7B (s : State) : Result := bitReg 7 .b s

/-- `BIT 7,C` (R320). -/
def execBit7C (s : State) : Result := bitReg 7 .c s

/-- `BIT 7,D` (R320). -/
def execBit7D (s : State) : Result := bitReg 7 .d s

/-- `BIT 7,E` (R320). -/
def execBit7E (s : State) : Result := bitReg 7 .e s

/-- `BIT 7,H` (R320). -/
def execBit7H (s : State) : Result := bitReg 7 .h s

/-- `BIT 7,L` (R320). -/
def execBit7L (s : State) : Result := bitReg 7 .l s

/-- `BIT 7,(HL)` (R321). -/
def execBit7IndHL (s : State) : Result := bitHL 7 s

/-- `BIT 7,A` (R320). -/
def execBit7A (s : State) : Result := bitReg 7 .a s

/-- `RES 0,B` (R322). -/
def execRes0B (s : State) : Result := resReg 0 .b s

/-- `RES 0,C` (R322). -/
def execRes0C (s : State) : Result := resReg 0 .c s

/-- `RES 0,D` (R322). -/
def execRes0D (s : State) : Result := resReg 0 .d s

/-- `RES 0,E` (R322). -/
def execRes0E (s : State) : Result := resReg 0 .e s

/-- `RES 0,H` (R322). -/
def execRes0H (s : State) : Result := resReg 0 .h s

/-- `RES 0,L` (R322). -/
def execRes0L (s : State) : Result := resReg 0 .l s

/-- `RES 0,(HL)` (R323). -/
def execRes0IndHL (s : State) : Result := resHL 0 s

/-- `RES 0,A` (R322). -/
def execRes0A (s : State) : Result := resReg 0 .a s

/-- `RES 1,B` (R322). -/
def execRes1B (s : State) : Result := resReg 1 .b s

/-- `RES 1,C` (R322). -/
def execRes1C (s : State) : Result := resReg 1 .c s

/-- `RES 1,D` (R322). -/
def execRes1D (s : State) : Result := resReg 1 .d s

/-- `RES 1,E` (R322). -/
def execRes1E (s : State) : Result := resReg 1 .e s

/-- `RES 1,H` (R322). -/
def execRes1H (s : State) : Result := resReg 1 .h s

/-- `RES 1,L` (R322). -/
def execRes1L (s : State) : Result := resReg 1 .l s

/-- `RES 1,(HL)` (R323). -/
def execRes1IndHL (s : State) : Result := resHL 1 s

/-- `RES 1,A` (R322). -/
def execRes1A (s : State) : Result := resReg 1 .a s

/-- `RES 2,B` (R322). -/
def execRes2B (s : State) : Result := resReg 2 .b s

/-- `RES 2,C` (R322). -/
def execRes2C (s : State) : Result := resReg 2 .c s

/-- `RES 2,D` (R322). -/
def execRes2D (s : State) : Result := resReg 2 .d s

/-- `RES 2,E` (R322). -/
def execRes2E (s : State) : Result := resReg 2 .e s

/-- `RES 2,H` (R322). -/
def execRes2H (s : State) : Result := resReg 2 .h s

/-- `RES 2,L` (R322). -/
def execRes2L (s : State) : Result := resReg 2 .l s

/-- `RES 2,(HL)` (R323). -/
def execRes2IndHL (s : State) : Result := resHL 2 s

/-- `RES 2,A` (R322). -/
def execRes2A (s : State) : Result := resReg 2 .a s

/-- `RES 3,B` (R322). -/
def execRes3B (s : State) : Result := resReg 3 .b s

/-- `RES 3,C` (R322). -/
def execRes3C (s : State) : Result := resReg 3 .c s

/-- `RES 3,D` (R322). -/
def execRes3D (s : State) : Result := resReg 3 .d s

/-- `RES 3,E` (R322). -/
def execRes3E (s : State) : Result := resReg 3 .e s

/-- `RES 3,H` (R322). -/
def execRes3H (s : State) : Result := resReg 3 .h s

/-- `RES 3,L` (R322). -/
def execRes3L (s : State) : Result := resReg 3 .l s

/-- `RES 3,(HL)` (R323). -/
def execRes3IndHL (s : State) : Result := resHL 3 s

/-- `RES 3,A` (R322). -/
def execRes3A (s : State) : Result := resReg 3 .a s

/-- `RES 4,B` (R322). -/
def execRes4B (s : State) : Result := resReg 4 .b s

/-- `RES 4,C` (R322). -/
def execRes4C (s : State) : Result := resReg 4 .c s

/-- `RES 4,D` (R322). -/
def execRes4D (s : State) : Result := resReg 4 .d s

/-- `RES 4,E` (R322). -/
def execRes4E (s : State) : Result := resReg 4 .e s

/-- `RES 4,H` (R322). -/
def execRes4H (s : State) : Result := resReg 4 .h s

/-- `RES 4,L` (R322). -/
def execRes4L (s : State) : Result := resReg 4 .l s

/-- `RES 4,(HL)` (R323). -/
def execRes4IndHL (s : State) : Result := resHL 4 s

/-- `RES 4,A` (R322). -/
def execRes4A (s : State) : Result := resReg 4 .a s

/-- `RES 5,B` (R322). -/
def execRes5B (s : State) : Result := resReg 5 .b s

/-- `RES 5,C` (R322). -/
def execRes5C (s : State) : Result := resReg 5 .c s

/-- `RES 5,D` (R322). -/
def execRes5D (s : State) : Result := resReg 5 .d s

/-- `RES 5,E` (R322). -/
def execRes5E (s : State) : Result := resReg 5 .e s

/-- `RES 5,H` (R322). -/
def execRes5H (s : State) : Result := resReg 5 .h s

/-- `RES 5,L` (R322). -/
def execRes5L (s : State) : Result := resReg 5 .l s

/-- `RES 5,(HL)` (R323). -/
def execRes5IndHL (s : State) : Result := resHL 5 s

/-- `RES 5,A` (R322). -/
def execRes5A (s : State) : Result := resReg 5 .a s

/-- `RES 6,B` (R322). -/
def execRes6B (s : State) : Result := resReg 6 .b s

/-- `RES 6,C` (R322). -/
def execRes6C (s : State) : Result := resReg 6 .c s

/-- `RES 6,D` (R322). -/
def execRes6D (s : State) : Result := resReg 6 .d s

/-- `RES 6,E` (R322). -/
def execRes6E (s : State) : Result := resReg 6 .e s

/-- `RES 6,H` (R322). -/
def execRes6H (s : State) : Result := resReg 6 .h s

/-- `RES 6,L` (R322). -/
def execRes6L (s : State) : Result := resReg 6 .l s

/-- `RES 6,(HL)` (R323). -/
def execRes6IndHL (s : State) : Result := resHL 6 s

/-- `RES 6,A` (R322). -/
def execRes6A (s : State) : Result := resReg 6 .a s

/-- `RES 7,B` (R322). -/
def execRes7B (s : State) : Result := resReg 7 .b s

/-- `RES 7,C` (R322). -/
def execRes7C (s : State) : Result := resReg 7 .c s

/-- `RES 7,D` (R322). -/
def execRes7D (s : State) : Result := resReg 7 .d s

/-- `RES 7,E` (R322). -/
def execRes7E (s : State) : Result := resReg 7 .e s

/-- `RES 7,H` (R322). -/
def execRes7H (s : State) : Result := resReg 7 .h s

/-- `RES 7,L` (R322). -/
def execRes7L (s : State) : Result := resReg 7 .l s

/-- `RES 7,(HL)` (R323). -/
def execRes7IndHL (s : State) : Result := resHL 7 s

/-- `RES 7,A` (R322). -/
def execRes7A (s : State) : Result := resReg 7 .a s

/-- `SET 0,B` (R324). -/
def execSet0B (s : State) : Result := setReg8Bit 0 .b s

/-- `SET 0,C` (R324). -/
def execSet0C (s : State) : Result := setReg8Bit 0 .c s

/-- `SET 0,D` (R324). -/
def execSet0D (s : State) : Result := setReg8Bit 0 .d s

/-- `SET 0,E` (R324). -/
def execSet0E (s : State) : Result := setReg8Bit 0 .e s

/-- `SET 0,H` (R324). -/
def execSet0H (s : State) : Result := setReg8Bit 0 .h s

/-- `SET 0,L` (R324). -/
def execSet0L (s : State) : Result := setReg8Bit 0 .l s

/-- `SET 0,(HL)` (R325). -/
def execSet0IndHL (s : State) : Result := setHLBit 0 s

/-- `SET 0,A` (R324). -/
def execSet0A (s : State) : Result := setReg8Bit 0 .a s

/-- `SET 1,B` (R324). -/
def execSet1B (s : State) : Result := setReg8Bit 1 .b s

/-- `SET 1,C` (R324). -/
def execSet1C (s : State) : Result := setReg8Bit 1 .c s

/-- `SET 1,D` (R324). -/
def execSet1D (s : State) : Result := setReg8Bit 1 .d s

/-- `SET 1,E` (R324). -/
def execSet1E (s : State) : Result := setReg8Bit 1 .e s

/-- `SET 1,H` (R324). -/
def execSet1H (s : State) : Result := setReg8Bit 1 .h s

/-- `SET 1,L` (R324). -/
def execSet1L (s : State) : Result := setReg8Bit 1 .l s

/-- `SET 1,(HL)` (R325). -/
def execSet1IndHL (s : State) : Result := setHLBit 1 s

/-- `SET 1,A` (R324). -/
def execSet1A (s : State) : Result := setReg8Bit 1 .a s

/-- `SET 2,B` (R324). -/
def execSet2B (s : State) : Result := setReg8Bit 2 .b s

/-- `SET 2,C` (R324). -/
def execSet2C (s : State) : Result := setReg8Bit 2 .c s

/-- `SET 2,D` (R324). -/
def execSet2D (s : State) : Result := setReg8Bit 2 .d s

/-- `SET 2,E` (R324). -/
def execSet2E (s : State) : Result := setReg8Bit 2 .e s

/-- `SET 2,H` (R324). -/
def execSet2H (s : State) : Result := setReg8Bit 2 .h s

/-- `SET 2,L` (R324). -/
def execSet2L (s : State) : Result := setReg8Bit 2 .l s

/-- `SET 2,(HL)` (R325). -/
def execSet2IndHL (s : State) : Result := setHLBit 2 s

/-- `SET 2,A` (R324). -/
def execSet2A (s : State) : Result := setReg8Bit 2 .a s

/-- `SET 3,B` (R324). -/
def execSet3B (s : State) : Result := setReg8Bit 3 .b s

/-- `SET 3,C` (R324). -/
def execSet3C (s : State) : Result := setReg8Bit 3 .c s

/-- `SET 3,D` (R324). -/
def execSet3D (s : State) : Result := setReg8Bit 3 .d s

/-- `SET 3,E` (R324). -/
def execSet3E (s : State) : Result := setReg8Bit 3 .e s

/-- `SET 3,H` (R324). -/
def execSet3H (s : State) : Result := setReg8Bit 3 .h s

/-- `SET 3,L` (R324). -/
def execSet3L (s : State) : Result := setReg8Bit 3 .l s

/-- `SET 3,(HL)` (R325). -/
def execSet3IndHL (s : State) : Result := setHLBit 3 s

/-- `SET 3,A` (R324). -/
def execSet3A (s : State) : Result := setReg8Bit 3 .a s

/-- `SET 4,B` (R324). -/
def execSet4B (s : State) : Result := setReg8Bit 4 .b s

/-- `SET 4,C` (R324). -/
def execSet4C (s : State) : Result := setReg8Bit 4 .c s

/-- `SET 4,D` (R324). -/
def execSet4D (s : State) : Result := setReg8Bit 4 .d s

/-- `SET 4,E` (R324). -/
def execSet4E (s : State) : Result := setReg8Bit 4 .e s

/-- `SET 4,H` (R324). -/
def execSet4H (s : State) : Result := setReg8Bit 4 .h s

/-- `SET 4,L` (R324). -/
def execSet4L (s : State) : Result := setReg8Bit 4 .l s

/-- `SET 4,(HL)` (R325). -/
def execSet4IndHL (s : State) : Result := setHLBit 4 s

/-- `SET 4,A` (R324). -/
def execSet4A (s : State) : Result := setReg8Bit 4 .a s

/-- `SET 5,B` (R324). -/
def execSet5B (s : State) : Result := setReg8Bit 5 .b s

/-- `SET 5,C` (R324). -/
def execSet5C (s : State) : Result := setReg8Bit 5 .c s

/-- `SET 5,D` (R324). -/
def execSet5D (s : State) : Result := setReg8Bit 5 .d s

/-- `SET 5,E` (R324). -/
def execSet5E (s : State) : Result := setReg8Bit 5 .e s

/-- `SET 5,H` (R324). -/
def execSet5H (s : State) : Result := setReg8Bit 5 .h s

/-- `SET 5,L` (R324). -/
def execSet5L (s : State) : Result := setReg8Bit 5 .l s

/-- `SET 5,(HL)` (R325). -/
def execSet5IndHL (s : State) : Result := setHLBit 5 s

/-- `SET 5,A` (R324). -/
def execSet5A (s : State) : Result := setReg8Bit 5 .a s

/-- `SET 6,B` (R324). -/
def execSet6B (s : State) : Result := setReg8Bit 6 .b s

/-- `SET 6,C` (R324). -/
def execSet6C (s : State) : Result := setReg8Bit 6 .c s

/-- `SET 6,D` (R324). -/
def execSet6D (s : State) : Result := setReg8Bit 6 .d s

/-- `SET 6,E` (R324). -/
def execSet6E (s : State) : Result := setReg8Bit 6 .e s

/-- `SET 6,H` (R324). -/
def execSet6H (s : State) : Result := setReg8Bit 6 .h s

/-- `SET 6,L` (R324). -/
def execSet6L (s : State) : Result := setReg8Bit 6 .l s

/-- `SET 6,(HL)` (R325). -/
def execSet6IndHL (s : State) : Result := setHLBit 6 s

/-- `SET 6,A` (R324). -/
def execSet6A (s : State) : Result := setReg8Bit 6 .a s

/-- `SET 7,B` (R324). -/
def execSet7B (s : State) : Result := setReg8Bit 7 .b s

/-- `SET 7,C` (R324). -/
def execSet7C (s : State) : Result := setReg8Bit 7 .c s

/-- `SET 7,D` (R324). -/
def execSet7D (s : State) : Result := setReg8Bit 7 .d s

/-- `SET 7,E` (R324). -/
def execSet7E (s : State) : Result := setReg8Bit 7 .e s

/-- `SET 7,H` (R324). -/
def execSet7H (s : State) : Result := setReg8Bit 7 .h s

/-- `SET 7,L` (R324). -/
def execSet7L (s : State) : Result := setReg8Bit 7 .l s

/-- `SET 7,(HL)` (R325). -/
def execSet7IndHL (s : State) : Result := setHLBit 7 s

/-- `SET 7,A` (R324). -/
def execSet7A (s : State) : Result := setReg8Bit 7 .a s

end Sys2Proof.Machine
end

