-- ==== Sys2Proof/Machine/Control.lean ====
section
/-! DEFINITION. Jumps, calls, returns and restarts (46_control.md R330 to R340). One definition an
instruction, run with PC past the whole instruction (00_scope.md R16). -/

namespace Sys2Proof.Machine

/-- `JR e` (R333). -/
def execJrDisp (e : Byte) (s : State) : Result := (s.setPc (s.relTarget e)).done 12

/-- `JR NZ,e` (R334). -/
def execJrNZDisp (e : Byte) (s : State) : Result := jrCond .nz e s

/-- `JR Z,e` (R334). -/
def execJrZDisp (e : Byte) (s : State) : Result := jrCond .z e s

/-- `JR NC,e` (R334). -/
def execJrNCDisp (e : Byte) (s : State) : Result := jrCond .nc e s

/-- `JR C,e` (R334). -/
def execJrCDisp (e : Byte) (s : State) : Result := jrCond .c e s

/-- `RET NZ` (R338). -/
def execRetNZ (s : State) : Result := retCond .nz s

/-- `JP NZ,a16` (R331). -/
def execJpNZA16 (a16 : Word) (s : State) : Result := jpCond .nz a16 s

/-- `JP a16` (R330). -/
def execJpA16 (a16 : Word) (s : State) : Result := (s.setPc a16).done 16

/-- `CALL NZ,a16` (R336). -/
def execCallNZA16 (a16 : Word) (s : State) : Result := callCond .nz a16 s

/-- `RST 00H` (R340). -/
def execRst00H (s : State) : Result := rstTo 0 s

/-- `RET Z` (R338). -/
def execRetZ (s : State) : Result := retCond .z s

/-- `RET` (R337). -/
def execRet (s : State) : Result := s.returnPc.done 16

/-- `JP Z,a16` (R331). -/
def execJpZA16 (a16 : Word) (s : State) : Result := jpCond .z a16 s

/-- `CALL Z,a16` (R336). -/
def execCallZA16 (a16 : Word) (s : State) : Result := callCond .z a16 s

/-- `CALL a16` (R335). -/
def execCallA16 (a16 : Word) (s : State) : Result := (s.callTo a16).done 24

/-- `RST 08H` (R340). -/
def execRst08H (s : State) : Result := rstTo 1 s

/-- `RET NC` (R338). -/
def execRetNC (s : State) : Result := retCond .nc s

/-- `JP NC,a16` (R331). -/
def execJpNCA16 (a16 : Word) (s : State) : Result := jpCond .nc a16 s

/-- `CALL NC,a16` (R336). -/
def execCallNCA16 (a16 : Word) (s : State) : Result := callCond .nc a16 s

/-- `RST 10H` (R340). -/
def execRst10H (s : State) : Result := rstTo 2 s

/-- `RET C` (R338). -/
def execRetC (s : State) : Result := retCond .c s

/-- `RETI` (R339). -/
def execReti (s : State) : Result := s.returnFromInterrupt.done 16

/-- `JP C,a16` (R331). -/
def execJpCA16 (a16 : Word) (s : State) : Result := jpCond .c a16 s

/-- `CALL C,a16` (R336). -/
def execCallCA16 (a16 : Word) (s : State) : Result := callCond .c a16 s

/-- `RST 18H` (R340). -/
def execRst18H (s : State) : Result := rstTo 3 s

/-- `RST 20H` (R340). -/
def execRst20H (s : State) : Result := rstTo 4 s

/-- `JP HL` (R332). -/
def execJpHL (s : State) : Result := (s.setPc s.hl).done 4

/-- `RST 28H` (R340). -/
def execRst28H (s : State) : Result := rstTo 5 s

/-- `RST 30H` (R340). -/
def execRst30H (s : State) : Result := rstTo 6 s

/-- `RST 38H` (R340). -/
def execRst38H (s : State) : Result := rstTo 7 s

end Sys2Proof.Machine
end

