-- ==== Sys2Proof/Machine/Load16.lean ====
section
/-! DEFINITION. The 16-bit loads and the stack operations (41_load16.md R230 to R236). One definition an
instruction, run with PC past the whole instruction (00_scope.md R16). -/

namespace Sys2Proof.Machine

/-- `LD BC,d16` (R230). -/
def execLdBCD16 (d16 : Word) (s : State) : Result := ldPairImm .bc d16 s

/-- `LD (a16),SP` (R231). -/
def execLdIndA16SP (a16 : Word) (s : State) : Result :=
  ((s.memWrite a16 (loByte s.cpu.sp)).memWrite (a16 + 1) (hiByte s.cpu.sp)).done 20

/-- `LD DE,d16` (R230). -/
def execLdDED16 (d16 : Word) (s : State) : Result := ldPairImm .de d16 s

/-- `LD HL,d16` (R230). -/
def execLdHLD16 (d16 : Word) (s : State) : Result := ldPairImm .hl d16 s

/-- `LD SP,d16` (R230). -/
def execLdSPD16 (d16 : Word) (s : State) : Result := ldPairImm .sp d16 s

/-- `POP BC` (R234). -/
def execPopBC (s : State) : Result := popPair .bc s

/-- `PUSH BC` (R233). -/
def execPushBC (s : State) : Result := pushPair .bc s

/-- `POP DE` (R234). -/
def execPopDE (s : State) : Result := popPair .de s

/-- `PUSH DE` (R233). -/
def execPushDE (s : State) : Result := pushPair .de s

/-- `POP HL` (R234). -/
def execPopHL (s : State) : Result := popPair .hl s

/-- `PUSH HL` (R233). -/
def execPushHL (s : State) : Result := pushPair .hl s

/-- `POP AF` (R235). -/
def execPopAF (s : State) : Result := popPair .af s

/-- `PUSH AF` (R233). -/
def execPushAF (s : State) : Result := pushPair .af s

/-- `LD HL,SP+e` (R236). -/
def execLdHLSPDisp (e : Byte) (s : State) : Result :=
  let r := spPlusE s.cpu.sp e
  ((s.setPair .hl r.1).setFlags false false r.2.1 r.2.2).done 12

/-- `LD SP,HL` (R232). -/
def execLdSPHL (s : State) : Result := (s.setSp s.hl).done 8

end Sys2Proof.Machine
end

