-- ==== Sys2Proof/Machine/Load8.lean ====
section
/-! DEFINITION. The 8-bit loads and stores (40_load8.md R200 to R218). One definition an
instruction, run with PC past the whole instruction (00_scope.md R16). -/

namespace Sys2Proof.Machine

/-- `LD (BC),A` (R207). -/
def execLdIndBCA (s : State) : Result := stATo (s.getPair .bc) 8 s

/-- `LD B,d8` (R201). -/
def execLdBD8 (d8 : Byte) (s : State) : Result := ldRegImm .b d8 s

/-- `LD A,(BC)` (R205). -/
def execLdAIndBC (s : State) : Result := ldAFrom (s.getPair .bc) 8 s

/-- `LD C,d8` (R201). -/
def execLdCD8 (d8 : Byte) (s : State) : Result := ldRegImm .c d8 s

/-- `LD (DE),A` (R208). -/
def execLdIndDEA (s : State) : Result := stATo (s.getPair .de) 8 s

/-- `LD D,d8` (R201). -/
def execLdDD8 (d8 : Byte) (s : State) : Result := ldRegImm .d d8 s

/-- `LD A,(DE)` (R206). -/
def execLdAIndDE (s : State) : Result := ldAFrom (s.getPair .de) 8 s

/-- `LD E,d8` (R201). -/
def execLdED8 (d8 : Byte) (s : State) : Result := ldRegImm .e d8 s

/-- `LD (HL+),A` (R215). -/
def execLdIndHLIncA (s : State) : Result := stAMoveHL 1 s

/-- `LD H,d8` (R201). -/
def execLdHD8 (d8 : Byte) (s : State) : Result := ldRegImm .h d8 s

/-- `LD A,(HL+)` (R216). -/
def execLdAIndHLInc (s : State) : Result := ldAMoveHL 1 s

/-- `LD L,d8` (R201). -/
def execLdLD8 (d8 : Byte) (s : State) : Result := ldRegImm .l d8 s

/-- `LD (HL-),A` (R217). -/
def execLdIndHLDecA (s : State) : Result := stAMoveHL (-1) s

/-- `LD (HL),d8` (R204). -/
def execLdIndHLD8 (d8 : Byte) (s : State) : Result := (s.memWrite s.hl d8).done 12

/-- `LD A,(HL-)` (R218). -/
def execLdAIndHLDec (s : State) : Result := ldAMoveHL (-1) s

/-- `LD A,d8` (R201). -/
def execLdAD8 (d8 : Byte) (s : State) : Result := ldRegImm .a d8 s

/-- `LD B,B` (R200). -/
def execLdBB (s : State) : Result := ldRegReg .b .b s

/-- `LD B,C` (R200). -/
def execLdBC (s : State) : Result := ldRegReg .b .c s

/-- `LD B,D` (R200). -/
def execLdBD (s : State) : Result := ldRegReg .b .d s

/-- `LD B,E` (R200). -/
def execLdBE (s : State) : Result := ldRegReg .b .e s

/-- `LD B,H` (R200). -/
def execLdBH (s : State) : Result := ldRegReg .b .h s

/-- `LD B,L` (R200). -/
def execLdBL (s : State) : Result := ldRegReg .b .l s

/-- `LD B,(HL)` (R202). -/
def execLdBIndHL (s : State) : Result := ldRegHL .b s

/-- `LD B,A` (R200). -/
def execLdBA (s : State) : Result := ldRegReg .b .a s

/-- `LD C,B` (R200). -/
def execLdCB (s : State) : Result := ldRegReg .c .b s

/-- `LD C,C` (R200). -/
def execLdCC (s : State) : Result := ldRegReg .c .c s

/-- `LD C,D` (R200). -/
def execLdCD (s : State) : Result := ldRegReg .c .d s

/-- `LD C,E` (R200). -/
def execLdCE (s : State) : Result := ldRegReg .c .e s

/-- `LD C,H` (R200). -/
def execLdCH (s : State) : Result := ldRegReg .c .h s

/-- `LD C,L` (R200). -/
def execLdCL (s : State) : Result := ldRegReg .c .l s

/-- `LD C,(HL)` (R202). -/
def execLdCIndHL (s : State) : Result := ldRegHL .c s

/-- `LD C,A` (R200). -/
def execLdCA (s : State) : Result := ldRegReg .c .a s

/-- `LD D,B` (R200). -/
def execLdDB (s : State) : Result := ldRegReg .d .b s

/-- `LD D,C` (R200). -/
def execLdDC (s : State) : Result := ldRegReg .d .c s

/-- `LD D,D` (R200). -/
def execLdDD (s : State) : Result := ldRegReg .d .d s

/-- `LD D,E` (R200). -/
def execLdDE (s : State) : Result := ldRegReg .d .e s

/-- `LD D,H` (R200). -/
def execLdDH (s : State) : Result := ldRegReg .d .h s

/-- `LD D,L` (R200). -/
def execLdDL (s : State) : Result := ldRegReg .d .l s

/-- `LD D,(HL)` (R202). -/
def execLdDIndHL (s : State) : Result := ldRegHL .d s

/-- `LD D,A` (R200). -/
def execLdDA (s : State) : Result := ldRegReg .d .a s

/-- `LD E,B` (R200). -/
def execLdEB (s : State) : Result := ldRegReg .e .b s

/-- `LD E,C` (R200). -/
def execLdEC (s : State) : Result := ldRegReg .e .c s

/-- `LD E,D` (R200). -/
def execLdED (s : State) : Result := ldRegReg .e .d s

/-- `LD E,E` (R200). -/
def execLdEE (s : State) : Result := ldRegReg .e .e s

/-- `LD E,H` (R200). -/
def execLdEH (s : State) : Result := ldRegReg .e .h s

/-- `LD E,L` (R200). -/
def execLdEL (s : State) : Result := ldRegReg .e .l s

/-- `LD E,(HL)` (R202). -/
def execLdEIndHL (s : State) : Result := ldRegHL .e s

/-- `LD E,A` (R200). -/
def execLdEA (s : State) : Result := ldRegReg .e .a s

/-- `LD H,B` (R200). -/
def execLdHB (s : State) : Result := ldRegReg .h .b s

/-- `LD H,C` (R200). -/
def execLdHC (s : State) : Result := ldRegReg .h .c s

/-- `LD H,D` (R200). -/
def execLdHD (s : State) : Result := ldRegReg .h .d s

/-- `LD H,E` (R200). -/
def execLdHE (s : State) : Result := ldRegReg .h .e s

/-- `LD H,H` (R200). -/
def execLdHH (s : State) : Result := ldRegReg .h .h s

/-- `LD H,L` (R200). -/
def execLdHL (s : State) : Result := ldRegReg .h .l s

/-- `LD H,(HL)` (R202). -/
def execLdHIndHL (s : State) : Result := ldRegHL .h s

/-- `LD H,A` (R200). -/
def execLdHA (s : State) : Result := ldRegReg .h .a s

/-- `LD L,B` (R200). -/
def execLdLB (s : State) : Result := ldRegReg .l .b s

/-- `LD L,C` (R200). -/
def execLdLC (s : State) : Result := ldRegReg .l .c s

/-- `LD L,D` (R200). -/
def execLdLD (s : State) : Result := ldRegReg .l .d s

/-- `LD L,E` (R200). -/
def execLdLE (s : State) : Result := ldRegReg .l .e s

/-- `LD L,H` (R200). -/
def execLdLH (s : State) : Result := ldRegReg .l .h s

/-- `LD L,L` (R200). -/
def execLdLL (s : State) : Result := ldRegReg .l .l s

/-- `LD L,(HL)` (R202). -/
def execLdLIndHL (s : State) : Result := ldRegHL .l s

/-- `LD L,A` (R200). -/
def execLdLA (s : State) : Result := ldRegReg .l .a s

/-- `LD (HL),B` (R203). -/
def execLdIndHLB (s : State) : Result := ldHLReg .b s

/-- `LD (HL),C` (R203). -/
def execLdIndHLC (s : State) : Result := ldHLReg .c s

/-- `LD (HL),D` (R203). -/
def execLdIndHLD (s : State) : Result := ldHLReg .d s

/-- `LD (HL),E` (R203). -/
def execLdIndHLE (s : State) : Result := ldHLReg .e s

/-- `LD (HL),H` (R203). -/
def execLdIndHLH (s : State) : Result := ldHLReg .h s

/-- `LD (HL),L` (R203). -/
def execLdIndHLL (s : State) : Result := ldHLReg .l s

/-- `LD (HL),A` (R203). -/
def execLdIndHLA (s : State) : Result := ldHLReg .a s

/-- `LD A,B` (R200). -/
def execLdAB (s : State) : Result := ldRegReg .a .b s

/-- `LD A,C` (R200). -/
def execLdAC (s : State) : Result := ldRegReg .a .c s

/-- `LD A,D` (R200). -/
def execLdAD (s : State) : Result := ldRegReg .a .d s

/-- `LD A,E` (R200). -/
def execLdAE (s : State) : Result := ldRegReg .a .e s

/-- `LD A,H` (R200). -/
def execLdAH (s : State) : Result := ldRegReg .a .h s

/-- `LD A,L` (R200). -/
def execLdAL (s : State) : Result := ldRegReg .a .l s

/-- `LD A,(HL)` (R202). -/
def execLdAIndHL (s : State) : Result := ldRegHL .a s

/-- `LD A,A` (R200). -/
def execLdAA (s : State) : Result := ldRegReg .a .a s

/-- `LDH (a8),A` (R212). -/
def execLdhIndA8A (a8 : Byte) (s : State) : Result := stATo (highPage a8) 12 s

/-- `LD (C),A` (R214). -/
def execLdIndCA (s : State) : Result := stATo (highPage s.cpu.c) 8 s

/-- `LD (a16),A` (R210). -/
def execLdIndA16A (a16 : Word) (s : State) : Result := stATo a16 16 s

/-- `LDH A,(a8)` (R211). -/
def execLdhAIndA8 (a8 : Byte) (s : State) : Result := ldAFrom (highPage a8) 12 s

/-- `LD A,(C)` (R213). -/
def execLdAIndC (s : State) : Result := ldAFrom (highPage s.cpu.c) 8 s

/-- `LD A,(a16)` (R209). -/
def execLdAIndA16 (a16 : Word) (s : State) : Result := ldAFrom a16 16 s

end Sys2Proof.Machine
end

