-- ==== Sys2Proof/Machine/RotateShift.lean ====
section
/-! DEFINITION. Rotates, shifts and SWAP (44_rotate_shift.md R300 to R319). One definition an
instruction, run with PC past the whole instruction (00_scope.md R16). -/

namespace Sys2Proof.Machine

/-- `RLCA` (R300). -/
def execRlca (s : State) : Result := rotateA .rlc s

/-- `RRCA` (R301). -/
def execRrca (s : State) : Result := rotateA .rrc s

/-- `RLA` (R302). -/
def execRla (s : State) : Result := rotateA .rl s

/-- `RRA` (R303). -/
def execRra (s : State) : Result := rotateA .rr s

/-- `RLC B` (R304). -/
def execRlcB (s : State) : Result := rotateReg .rlc .b s

/-- `RLC C` (R304). -/
def execRlcC (s : State) : Result := rotateReg .rlc .c s

/-- `RLC D` (R304). -/
def execRlcD (s : State) : Result := rotateReg .rlc .d s

/-- `RLC E` (R304). -/
def execRlcE (s : State) : Result := rotateReg .rlc .e s

/-- `RLC H` (R304). -/
def execRlcH (s : State) : Result := rotateReg .rlc .h s

/-- `RLC L` (R304). -/
def execRlcL (s : State) : Result := rotateReg .rlc .l s

/-- `RLC (HL)` (R305). -/
def execRlcIndHL (s : State) : Result := rotateHL .rlc s

/-- `RLC A` (R304). -/
def execRlcA (s : State) : Result := rotateReg .rlc .a s

/-- `RRC B` (R306). -/
def execRrcB (s : State) : Result := rotateReg .rrc .b s

/-- `RRC C` (R306). -/
def execRrcC (s : State) : Result := rotateReg .rrc .c s

/-- `RRC D` (R306). -/
def execRrcD (s : State) : Result := rotateReg .rrc .d s

/-- `RRC E` (R306). -/
def execRrcE (s : State) : Result := rotateReg .rrc .e s

/-- `RRC H` (R306). -/
def execRrcH (s : State) : Result := rotateReg .rrc .h s

/-- `RRC L` (R306). -/
def execRrcL (s : State) : Result := rotateReg .rrc .l s

/-- `RRC (HL)` (R307). -/
def execRrcIndHL (s : State) : Result := rotateHL .rrc s

/-- `RRC A` (R306). -/
def execRrcA (s : State) : Result := rotateReg .rrc .a s

/-- `RL B` (R308). -/
def execRlB (s : State) : Result := rotateReg .rl .b s

/-- `RL C` (R308). -/
def execRlC (s : State) : Result := rotateReg .rl .c s

/-- `RL D` (R308). -/
def execRlD (s : State) : Result := rotateReg .rl .d s

/-- `RL E` (R308). -/
def execRlE (s : State) : Result := rotateReg .rl .e s

/-- `RL H` (R308). -/
def execRlH (s : State) : Result := rotateReg .rl .h s

/-- `RL L` (R308). -/
def execRlL (s : State) : Result := rotateReg .rl .l s

/-- `RL (HL)` (R309). -/
def execRlIndHL (s : State) : Result := rotateHL .rl s

/-- `RL A` (R308). -/
def execRlA (s : State) : Result := rotateReg .rl .a s

/-- `RR B` (R310). -/
def execRrB (s : State) : Result := rotateReg .rr .b s

/-- `RR C` (R310). -/
def execRrC (s : State) : Result := rotateReg .rr .c s

/-- `RR D` (R310). -/
def execRrD (s : State) : Result := rotateReg .rr .d s

/-- `RR E` (R310). -/
def execRrE (s : State) : Result := rotateReg .rr .e s

/-- `RR H` (R310). -/
def execRrH (s : State) : Result := rotateReg .rr .h s

/-- `RR L` (R310). -/
def execRrL (s : State) : Result := rotateReg .rr .l s

/-- `RR (HL)` (R311). -/
def execRrIndHL (s : State) : Result := rotateHL .rr s

/-- `RR A` (R310). -/
def execRrA (s : State) : Result := rotateReg .rr .a s

/-- `SLA B` (R312). -/
def execSlaB (s : State) : Result := rotateReg .sla .b s

/-- `SLA C` (R312). -/
def execSlaC (s : State) : Result := rotateReg .sla .c s

/-- `SLA D` (R312). -/
def execSlaD (s : State) : Result := rotateReg .sla .d s

/-- `SLA E` (R312). -/
def execSlaE (s : State) : Result := rotateReg .sla .e s

/-- `SLA H` (R312). -/
def execSlaH (s : State) : Result := rotateReg .sla .h s

/-- `SLA L` (R312). -/
def execSlaL (s : State) : Result := rotateReg .sla .l s

/-- `SLA (HL)` (R313). -/
def execSlaIndHL (s : State) : Result := rotateHL .sla s

/-- `SLA A` (R312). -/
def execSlaA (s : State) : Result := rotateReg .sla .a s

/-- `SRA B` (R314). -/
def execSraB (s : State) : Result := rotateReg .sra .b s

/-- `SRA C` (R314). -/
def execSraC (s : State) : Result := rotateReg .sra .c s

/-- `SRA D` (R314). -/
def execSraD (s : State) : Result := rotateReg .sra .d s

/-- `SRA E` (R314). -/
def execSraE (s : State) : Result := rotateReg .sra .e s

/-- `SRA H` (R314). -/
def execSraH (s : State) : Result := rotateReg .sra .h s

/-- `SRA L` (R314). -/
def execSraL (s : State) : Result := rotateReg .sra .l s

/-- `SRA (HL)` (R315). -/
def execSraIndHL (s : State) : Result := rotateHL .sra s

/-- `SRA A` (R314). -/
def execSraA (s : State) : Result := rotateReg .sra .a s

/-- `SWAP B` (R316). -/
def execSwapB (s : State) : Result := rotateReg .swap .b s

/-- `SWAP C` (R316). -/
def execSwapC (s : State) : Result := rotateReg .swap .c s

/-- `SWAP D` (R316). -/
def execSwapD (s : State) : Result := rotateReg .swap .d s

/-- `SWAP E` (R316). -/
def execSwapE (s : State) : Result := rotateReg .swap .e s

/-- `SWAP H` (R316). -/
def execSwapH (s : State) : Result := rotateReg .swap .h s

/-- `SWAP L` (R316). -/
def execSwapL (s : State) : Result := rotateReg .swap .l s

/-- `SWAP (HL)` (R317). -/
def execSwapIndHL (s : State) : Result := rotateHL .swap s

/-- `SWAP A` (R316). -/
def execSwapA (s : State) : Result := rotateReg .swap .a s

/-- `SRL B` (R318). -/
def execSrlB (s : State) : Result := rotateReg .srl .b s

/-- `SRL C` (R318). -/
def execSrlC (s : State) : Result := rotateReg .srl .c s

/-- `SRL D` (R318). -/
def execSrlD (s : State) : Result := rotateReg .srl .d s

/-- `SRL E` (R318). -/
def execSrlE (s : State) : Result := rotateReg .srl .e s

/-- `SRL H` (R318). -/
def execSrlH (s : State) : Result := rotateReg .srl .h s

/-- `SRL L` (R318). -/
def execSrlL (s : State) : Result := rotateReg .srl .l s

/-- `SRL (HL)` (R319). -/
def execSrlIndHL (s : State) : Result := rotateHL .srl s

/-- `SRL A` (R318). -/
def execSrlA (s : State) : Result := rotateReg .srl .a s

end Sys2Proof.Machine
end

