-- ==== Sys2Proof/Machine/System.lean ====
section
/-! DEFINITION. No-operation, halt, stop, interrupt enable, the unassigned opcodes and the CB byte (47_system.md R350 to R356). One definition an
instruction, run with PC past the whole instruction (00_scope.md R16). -/

namespace Sys2Proof.Machine

/-- `NOP` (R350). -/
def execNop (s : State) : Result := s.done 4

/-- `STOP`: the speed-switch stub; its second byte is ignored (R352). -/
def execStop (_d8 : Byte) (s : State) : Result :=
  if s.isCgb && bit (s.mem addrKey1) 0 then
    (s.setMem addrKey1 ((s.mem addrKey1 ^^^ 0x80#8) &&& 0xFE#8)).done 4
  else s.done 4

/-- `HALT` (R351). -/
def execHalt (s : State) : Result := { s with cpu := { s.cpu with halted := true } }.done 4

/-- `PREFIX CB`: the CB instruction that `cbop` names (R356). -/
def execPrefixCB (cbop : Byte) (s : State) : Result := executeCb cbop s

/-- The unassigned opcodes: a no-op, or with `ILLEGAL_OPCODE = stuck` PC stays on the opcode with IME off (R355). -/
def execIllegal (_op : Byte) (s : State) : Result :=
  match s.params.illegalOpcode with
  | .nop => s.done 4
  | .stuck => { s with cpu := { s.cpu with pc := s.cpu.pc - 1, ime := false, eiPending := false } }.done 4

/-- `DI` (R353). -/
def execDi (s : State) : Result :=
  { s with cpu := { s.cpu with ime := false, eiPending := false } }.done 4

/-- `EI` (R354). -/
def execEi (s : State) : Result :=
  if s.params.eiDelay then { s with cpu := { s.cpu with eiPending := true } }.done 4
  else { s with cpu := { s.cpu with ime := true } }.done 4

end Sys2Proof.Machine
end

