-- ==== Sys2Proof/Machine/Ppu.lean ====
section
/-! DEFINITION. The PPU: LY, the modes and the render of one line (60_exceptions.md R450 to R462). The PPU reads the
stored bytes directly, whatever VBK holds. Coordinates are natural numbers: where the spec subtracts an offset on
integers, the offset is added on the other side. -/

namespace Sys2Proof.Machine

/-- `SetLY(l)` of R451: LY, the coincidence flag, and the LCD STAT request where STAT bit 6 asks for it. -/
def State.setLY (s : State) (l : Nat) : State :=
  let s1 := s.setMem addrLy (BitVec.ofNat 8 l)
  if BitVec.ofNat 8 l = s1.mem addrLyc then
    let s2 := s1.setMem addrStat (setBit (s1.mem addrStat) 2)
    if bit (s2.mem addrStat) 6 then s2.requestInterrupt 1 else s2
  else s1.setMem addrStat (clearBit (s1.mem addrStat) 2)

/-- STAT bits 1-0 and the mode variable take the mode `m` (R44, R452). -/
def State.putMode (s : State) (m : BitVec 2) : State :=
  let s1 := s.setMem addrStat ((s.mem addrStat &&& 0xFC#8) ||| m.setWidth 8)
  { s1 with ppu := { s1.ppu with mode := m } }

/-- `SetMode(m)` of R452, with the mode sources of LCD STAT when `STAT_MODE_IRQ = on`. -/
def State.setMode (s : State) (m : BitVec 2) : State :=
  let s1 := s.putMode m
  if s1.params.statModeIrq && decide (m ≠ 3) && bit (s1.mem addrStat) (3 + m.toNat) then s1.requestInterrupt 1
  else s1

/-- The snapshot of SCX, SCY, WX and WY at mode-3 entry (R44, R453). -/
def State.takeSnapshot (s : State) : State :=
  { s with ppu := { s.ppu with snap :=
    { scx := s.mem addrScx, scy := s.mem addrScy, wx := s.mem addrWx, wy := s.mem addrWy } } }

/-- `TileIndexAddr(M, tx, ty)` of R454. -/
def tileIndexAddr (m tx ty : Nat) : Nat := m + 32 * ty + tx

/-- `TileDataAddr(t)` of R454: unsigned from 0x8000, or signed from 0x9000, by LCDC bit 4. -/
def State.tileDataAddr (s : State) (t : Byte) : Nat :=
  if bit (s.mem addrLcdc) 4 then 0x8000 + 16 * t.toNat else (0x9000 + 16 * t.toInt).toNat

/-- A byte of VRAM bank 0 or 1 at an address of 0x8000-0x9FFF (section 6). -/
def State.vramByte (s : State) (bank1 : Bool) (a : Nat) : Byte :=
  if bank1 then s.ram.vram1.read (a - 0x8000) else s.ram.mem.read a

/-- `PixelOf(bank, addr, r, c)` of R454: the low bitplane's bit and the high bitplane's bit, bit 7 leftmost. -/
def State.pixelOf (s : State) (bank1 : Bool) (addr r c : Nat) : BitVec 2 :=
  let lo := s.vramByte bank1 (addr + 2 * r)
  let hi := s.vramByte bank1 (addr + 2 * r + 1)
  BitVec.ofBool (bit hi (7 - c)) ++ BitVec.ofBool (bit lo (7 - c))

/-- `WindowVisible(l)` of R455, on the snapshot. -/
def State.windowVisible (s : State) (l : Nat) : Bool :=
  bit (s.mem addrLcdc) 5 && decide (s.ppu.snap.wy.toNat ≤ l) && decide (s.ppu.snap.wx.toNat ≤ 166)

/-- The map base, column and row that `BgWinPixel(px, l)` looks at (R455): the window from column WX - 7 on, else the
scrolled background. -/
def State.bgWinSource (s : State) (px l : Nat) : Nat × Nat × Nat :=
  let lcdc := s.mem addrLcdc
  let sn := s.ppu.snap
  if s.windowVisible l ∧ sn.wx.toNat ≤ px + 7 then
    (if bit lcdc 6 then 0x9C00 else 0x9800, px + 7 - sn.wx.toNat, l - sn.wy.toNat)
  else
    (if bit lcdc 3 then 0x9C00 else 0x9800, (sn.scx.toNat + px) % 256, (sn.scy.toNat + l) % 256)

/-- `BgWinPixel(px, l)` of R455: the color index and the CGB attribute byte. -/
def State.bgWinPixel (s : State) (px l : Nat) : BitVec 2 × Byte :=
  if s.isCgb = false ∧ bit (s.mem addrLcdc) 0 = false then (0, 0)
  else
    let (m, x, y) := s.bgWinSource px l
    let ia := tileIndexAddr m (x / 8) (y / 8)
    let t := s.vramByte false ia
    let attr := if s.isCgb then s.vramByte true ia else 0
    let r := if bit attr 6 then 7 - y % 8 else y % 8
    let c := if bit attr 5 then 7 - x % 8 else x % 8
    (s.pixelOf (bit attr 3) (s.tileDataAddr t) r c, attr)

/-- The height of sprites (LCDC bit 2). -/
def State.spriteHeight (s : State) : Nat := if bit (s.mem addrLcdc) 2 then 16 else 8

/-- `OAM[k]`. -/
def State.oam (s : State) (k : Nat) : Byte := s.ram.mem.read (0xFE00 + k)

/-- OAM entry `k` at (px, l): its opaque pixel and attributes, or none (the loop body of R457). -/
def State.spriteAt (s : State) (px l k : Nat) : Option (BitVec 2 × Byte) :=
  let h := s.spriteHeight
  let y := (s.oam (4 * k)).toNat
  let x := (s.oam (4 * k + 1)).toNat
  let t := s.oam (4 * k + 2)
  let a := s.oam (4 * k + 3)
  if y ≤ l + 16 ∧ l + 16 < y + h ∧ x ≤ px + 8 ∧ px + 8 < x + 8 then
    let r0 := l + 16 - y
    let c0 := px + 8 - x
    let r1 := if bit a 6 then h - 1 - r0 else r0
    let c := if bit a 5 then 7 - c0 else c0
    let t1 := if h = 16 then (if r1 < 8 then clearBit t 0 else setBit t 0) else t
    let ci := s.pixelOf (s.isCgb && bit a 3) (0x8000 + 16 * t1.toNat) (r1 % 8) c
    if ci = 0 then none else some (ci, a)
  else none

/-- `SpritePixel(px, l)` of R457: the lowest OAM index with an opaque pixel, when LCDC bit 1 is set. -/
def State.spritePixel (s : State) (px l : Nat) : Option (BitVec 2 × Byte) :=
  if bit (s.mem addrLcdc) 1 then (List.range 40).findSome? (s.spriteAt px l) else none

/-- The shade of color index `ci` in a DMG palette: bits `2ci+1 : 2ci` (R65). -/
def shade (palette : Byte) (ci : BitVec 2) : BitVec 15 := ((palette >>> (2 * ci.toNat)) &&& 3#8).setWidth 15

/-- The DMG pixel of R459. -/
def State.dmgPixel (s : State) (px l : Nat) : BitVec 15 :=
  let bci := (s.bgWinPixel px l).1
  let bshade := if bit (s.mem addrLcdc) 0 then shade (s.mem addrBgp) bci else 0
  match s.spritePixel px l with
  | none => bshade
  | some (sci, a) =>
    if bit a 7 ∧ bci ≠ 0 then bshade
    else shade (if bit a 4 then s.mem addrObp1 else s.mem addrObp0) sci

/-- `Color(P, pal, ci)` of R460: 15 bits, little-endian. -/
def paletteColor (p : Store 8) (pal : Nat) (ci : BitVec 2) : BitVec 15 :=
  (cat (p.read (8 * pal + 2 * ci.toNat + 1)) (p.read (8 * pal + 2 * ci.toNat))).setWidth 15

/-- The CGB pixel of R460. -/
def State.cgbPixel (s : State) (px l : Nat) : BitVec 15 :=
  let b := s.bgWinPixel px l
  let bgColor := paletteColor s.ram.bgPal (b.2.toNat % 8) b.1
  match s.spritePixel px l with
  | none => bgColor
  | some (sci, a) =>
    if bit (s.mem addrLcdc) 0 = false ∨ b.1 = 0 ∨ (bit b.2 7 = false ∧ bit a 7 = false) then
      paletteColor s.ram.objPal (a.toNat % 8) sci
    else bgColor

/-- The pixel of column `px` of line `l` (R453). -/
def State.pixel (s : State) (px l : Nat) : BitVec 15 := if s.isCgb then s.cgbPixel px l else s.dmgPixel px l

/-- The index of `FB[l][px]`. -/
def fbIndex (l px : Nat) : Nat := 160 * l + px

/-- `RenderLine(l)` of R453: FB[l][0..159] from the state of this moment. -/
def State.renderLine (s : State) (l : Nat) : State :=
  { s with ppu := { s.ppu with
    fb := (List.range 160).foldl (fun fb px => Store.write fb (fbIndex l px) (s.pixel px l)) s.ppu.fb } }

end Sys2Proof.Machine
end

