-- ==== Sys2Proof/Machine/Timer.lean ====
section
/-! DEFINITION. The timer (60_exceptions.md R430 to R435). -/

namespace Sys2Proof.Machine

/-- `TimaIncrement()` of R433: a reload from TMA and a timer request at 0xFF, else one more. -/
def State.timaIncrement (s : State) : State :=
  if s.mem addrTima = 0xFF#8 then (s.setMem addrTima (s.mem addrTma)).requestInterrupt 2
  else s.setMem addrTima (s.mem addrTima + 1)

/-- `n` calls of `TimaIncrement()`. -/
def State.timaIncrements : Nat → State → State
  | 0, s => s
  | n + 1, s => State.timaIncrements n s.timaIncrement

/-- The cycles per TIMA increment that TAC bits 1-0 select (R432). -/
def timaPeriod (tac : Byte) : Nat :=
  match tac.toNat % 4 with
  | 0 => 1024
  | 1 => 16
  | 2 => 64
  | _ => 256

/-- The DIV part of `tick(c)` (R430, R431): one increment per 256 accumulated cycles. -/
def State.tickDiv (s : State) (c : Nat) : State :=
  let acc := s.timer.divAcc + c
  { s with timer := { s.timer with divAcc := acc % 256, div := s.timer.div + BitVec.ofNat 8 (acc / 256) } }

/-- The TIMA part of `tick(c)` (R430, R432): while TAC bit 2 is set, one TimaIncrement per period. -/
def State.tickTima (s : State) (c : Nat) : State :=
  let tac := s.mem addrTac
  if bit tac 2 then
    let acc := s.timer.timaAcc + c
    State.timaIncrements (acc / timaPeriod tac)
      { s with timer := { s.timer with timaAcc := acc % timaPeriod tac } }
  else s

/-- `tick(c)` of R430. -/
def State.tick (s : State) (c : Nat) : State := (s.tickDiv c).tickTima c

end Sys2Proof.Machine
end

