-- ==== Sys2Proof/Machine/Driver.lean ====
section
/-! DEFINITION. The frame driver (60_exceptions.md R470 to R475): `next_frame()` as a sequence of budgets, one
transition for each, and the two ends of a machine step (R401). -/

namespace Sys2Proof.Machine

/-- `RunBudget(B)` begins (R470): B is added to cycle_balance, and the driver stands at `phase` while it runs. -/
def State.startBudget (s : State) (phase : Phase) (b : Int) : State :=
  { s with driver := { s.driver with phase := phase, cycleBalance := s.driver.cycleBalance + b } }

/-- Line `l` begins: SetLY, mode 2, 80 cycles (R471). -/
def State.startLine (s : State) (l : Nat) : State := ((s.setLY l).setMode 2).startBudget (.oam l) 80

/-- Mode 3 of line `l` begins: the snapshot, the render of the line, 172 cycles (R453, R471). -/
def State.startTransfer (s : State) (l : Nat) : State :=
  ((s.setMode 3).takeSnapshot.renderLine l).startBudget (.transfer l) 172

/-- Mode 0 of line `l` begins: 204 cycles (R471). -/
def State.startHblank (s : State) (l : Nat) : State := (s.setMode 0).startBudget (.hblank l) 204

/-- V-blank line `l` begins: SetLY, mode 1, on line 144 the V-blank request, 456 cycles (R471). -/
def State.startVblank (s : State) (l : Nat) : State :=
  let s1 := (s.setLY l).setMode 1
  (if l = 144 then s1.requestInterrupt 0 else s1).startBudget (.vblank l) 456

/-- Idle line `k` begins: LY = 0, mode 0, no request, 456 cycles (R471, R475). -/
def State.startIdle (s : State) (k : Nat) : State :=
  ((s.setMem addrLy 0).putMode 0).startBudget (.idle k) 456

/-- A sample point of LCDC bit 7 (R471): line 0, or a block of 154 idle lines. -/
def State.beginFrame (s : State) : State := if bit (s.mem addrLcdc) 7 then s.startLine 0 else s.startIdle 0

/-- `frame <- copy of FB` (R471). -/
def State.copyFrame (s : State) : State := { s with driver := { s.driver with frame := s.ppu.fb } }

/-- `next_frame` returns (R471). -/
def State.returnFrame (s : State) : State :=
  { s with driver := { s.driver with phase := .between, framesDone := s.driver.framesDone + 1 } }

/-- The next transition of `next_frame()`, once the running budget is used up (R471). Where no call is running, the
host calls `next_frame` (log entry 8). -/
def State.driverAdvance (s : State) : State :=
  match s.driver.phase with
  | .between => s.beginFrame
  | .idle k => if k < 153 then s.startIdle (k + 1) else s.beginFrame
  | .oam l => s.startTransfer l
  | .transfer l => s.startHblank l
  | .hblank l => if l < 143 then s.startLine (l + 1) else s.copyFrame.startVblank 144
  | .vblank l => if l < 153 then s.startVblank (l + 1) else s.returnFrame

/-- The driver's turn in a step: a transition where the budget is used up, nothing while it lasts (R470). -/
def State.driverTurn (s : State) : State := if 0 < s.driver.cycleBalance then s else s.driverAdvance

/-- The start of `MachineStep()` (R401): the poll, then the end of an EI delay. -/
def State.beginStep (s : State) : State := s.pollAndService.commitEi

/-- The end of `MachineStep()` and of its turn in RunBudget (R401, R470): the tick, and the charge to cycle_balance. -/
def State.endStep (s : State) : State :=
  let s1 := s.tick s.stepCycles
  { s1 with driver := { s1.driver with cycleBalance := s1.driver.cycleBalance - s1.stepCycles } }

end Sys2Proof.Machine
end

