-- ==== Sys2Proof/WellFormed.lean ====
section
/-! DEFINITION. Which terms of Instr the encoding can say. -/

namespace Sys2Proof

/-- The 11 unassigned primary opcodes (30_encoding.md R173). -/
def unassigned : List Byte :=
  [0xD3, 0xDB, 0xDD, 0xE3, 0xE4, 0xEB, 0xEC, 0xED, 0xF4, 0xFC, 0xFD]

/-- `illegal` stands for one of the 11 unassigned opcodes only (R173), and 0xCB is never an instruction by itself
(R356): its words are those of the CB instruction the second byte names. Every other constructor's operand fields are
exactly its bits. -/
def Instr.wellFormed : Instr → Bool
  | .nop => true
  | .ldBCD16 _ => true
  | .ldIndBCA => true
  | .incBC => true
  | .incB => true
  | .decB => true
  | .ldBD8 _ => true
  | .rlca => true
  | .ldIndA16SP _ => true
  | .addHLBC => true
  | .ldAIndBC => true
  | .decBC => true
  | .incC => true
  | .decC => true
  | .ldCD8 _ => true
  | .rrca => true
  | .stop _ => true
  | .ldDED16 _ => true
  | .ldIndDEA => true
  | .incDE => true
  | .incD => true
  | .decD => true
  | .ldDD8 _ => true
  | .rla => true
  | .jrDisp _ => true
  | .addHLDE => true
  | .ldAIndDE => true
  | .decDE => true
  | .incE => true
  | .decE => true
  | .ldED8 _ => true
  | .rra => true
  | .jrNZDisp _ => true
  | .ldHLD16 _ => true
  | .ldIndHLIncA => true
  | .incHL => true
  | .incH => true
  | .decH => true
  | .ldHD8 _ => true
  | .daa => true
  | .jrZDisp _ => true
  | .addHLHL => true
  | .ldAIndHLInc => true
  | .decHL => true
  | .incL => true
  | .decL => true
  | .ldLD8 _ => true
  | .cpl => true
  | .jrNCDisp _ => true
  | .ldSPD16 _ => true
  | .ldIndHLDecA => true
  | .incSP => true
  | .incIndHL => true
  | .decIndHL => true
  | .ldIndHLD8 _ => true
  | .scf => true
  | .jrCDisp _ => true
  | .addHLSP => true
  | .ldAIndHLDec => true
  | .decSP => true
  | .incA => true
  | .decA => true
  | .ldAD8 _ => true
  | .ccf => true
  | .ldBB => true
  | .ldBC => true
  | .ldBD => true
  | .ldBE => true
  | .ldBH => true
  | .ldBL => true
  | .ldBIndHL => true
  | .ldBA => true
  | .ldCB => true
  | .ldCC => true
  | .ldCD => true
  | .ldCE => true
  | .ldCH => true
  | .ldCL => true
  | .ldCIndHL => true
  | .ldCA => true
  | .ldDB => true
  | .ldDC => true
  | .ldDD => true
  | .ldDE => true
  | .ldDH => true
  | .ldDL => true
  | .ldDIndHL => true
  | .ldDA => true
  | .ldEB => true
  | .ldEC => true
  | .ldED => true
  | .ldEE => true
  | .ldEH => true
  | .ldEL => true
  | .ldEIndHL => true
  | .ldEA => true
  | .ldHB => true
  | .ldHC => true
  | .ldHD => true
  | .ldHE => true
  | .ldHH => true
  | .ldHL => true
  | .ldHIndHL => true
  | .ldHA => true
  | .ldLB => true
  | .ldLC => true
  | .ldLD => true
  | .ldLE => true
  | .ldLH => true
  | .ldLL => true
  | .ldLIndHL => true
  | .ldLA => true
  | .ldIndHLB => true
  | .ldIndHLC => true
  | .ldIndHLD => true
  | .ldIndHLE => true
  | .ldIndHLH => true
  | .ldIndHLL => true
  | .halt => true
  | .ldIndHLA => true
  | .ldAB => true
  | .ldAC => true
  | .ldAD => true
  | .ldAE => true
  | .ldAH => true
  | .ldAL => true
  | .ldAIndHL => true
  | .ldAA => true
  | .addAB => true
  | .addAC => true
  | .addAD => true
  | .addAE => true
  | .addAH => true
  | .addAL => true
  | .addAIndHL => true
  | .addAA => true
  | .adcAB => true
  | .adcAC => true
  | .adcAD => true
  | .adcAE => true
  | .adcAH => true
  | .adcAL => true
  | .adcAIndHL => true
  | .adcAA => true
  | .subB => true
  | .subC => true
  | .subD => true
  | .subE => true
  | .subH => true
  | .subL => true
  | .subIndHL => true
  | .subA => true
  | .sbcAB => true
  | .sbcAC => true
  | .sbcAD => true
  | .sbcAE => true
  | .sbcAH => true
  | .sbcAL => true
  | .sbcAIndHL => true
  | .sbcAA => true
  | .andB => true
  | .andC => true
  | .andD => true
  | .andE => true
  | .andH => true
  | .andL => true
  | .andIndHL => true
  | .andA => true
  | .xorB => true
  | .xorC => true
  | .xorD => true
  | .xorE => true
  | .xorH => true
  | .xorL => true
  | .xorIndHL => true
  | .xorA => true
  | .orB => true
  | .orC => true
  | .orD => true
  | .orE => true
  | .orH => true
  | .orL => true
  | .orIndHL => true
  | .orA => true
  | .cpB => true
  | .cpC => true
  | .cpD => true
  | .cpE => true
  | .cpH => true
  | .cpL => true
  | .cpIndHL => true
  | .cpA => true
  | .retNZ => true
  | .popBC => true
  | .jpNZA16 _ => true
  | .jpA16 _ => true
  | .callNZA16 _ => true
  | .pushBC => true
  | .addAD8 _ => true
  | .rst00H => true
  | .retZ => true
  | .ret => true
  | .jpZA16 _ => true
  | .prefixCB _ => false
  | .callZA16 _ => true
  | .callA16 _ => true
  | .adcAD8 _ => true
  | .rst08H => true
  | .retNC => true
  | .popDE => true
  | .jpNCA16 _ => true
  | .illegal op => unassigned.contains op
  | .callNCA16 _ => true
  | .pushDE => true
  | .subD8 _ => true
  | .rst10H => true
  | .retC => true
  | .reti => true
  | .jpCA16 _ => true
  | .callCA16 _ => true
  | .sbcAD8 _ => true
  | .rst18H => true
  | .ldhIndA8A _ => true
  | .popHL => true
  | .ldIndCA => true
  | .pushHL => true
  | .andD8 _ => true
  | .rst20H => true
  | .addSPDisp _ => true
  | .jpHL => true
  | .ldIndA16A _ => true
  | .xorD8 _ => true
  | .rst28H => true
  | .ldhAIndA8 _ => true
  | .popAF => true
  | .ldAIndC => true
  | .di => true
  | .pushAF => true
  | .orD8 _ => true
  | .rst30H => true
  | .ldHLSPDisp _ => true
  | .ldSPHL => true
  | .ldAIndA16 _ => true
  | .ei => true
  | .cpD8 _ => true
  | .rst38H => true
  | .rlcB => true
  | .rlcC => true
  | .rlcD => true
  | .rlcE => true
  | .rlcH => true
  | .rlcL => true
  | .rlcIndHL => true
  | .rlcA => true
  | .rrcB => true
  | .rrcC => true
  | .rrcD => true
  | .rrcE => true
  | .rrcH => true
  | .rrcL => true
  | .rrcIndHL => true
  | .rrcA => true
  | .rlB => true
  | .rlC => true
  | .rlD => true
  | .rlE => true
  | .rlH => true
  | .rlL => true
  | .rlIndHL => true
  | .rlA => true
  | .rrB => true
  | .rrC => true
  | .rrD => true
  | .rrE => true
  | .rrH => true
  | .rrL => true
  | .rrIndHL => true
  | .rrA => true
  | .slaB => true
  | .slaC => true
  | .slaD => true
  | .slaE => true
  | .slaH => true
  | .slaL => true
  | .slaIndHL => true
  | .slaA => true
  | .sraB => true
  | .sraC => true
  | .sraD => true
  | .sraE => true
  | .sraH => true
  | .sraL => true
  | .sraIndHL => true
  | .sraA => true
  | .swapB => true
  | .swapC => true
  | .swapD => true
  | .swapE => true
  | .swapH => true
  | .swapL => true
  | .swapIndHL => true
  | .swapA => true
  | .srlB => true
  | .srlC => true
  | .srlD => true
  | .srlE => true
  | .srlH => true
  | .srlL => true
  | .srlIndHL => true
  | .srlA => true
  | .bit0B => true
  | .bit0C => true
  | .bit0D => true
  | .bit0E => true
  | .bit0H => true
  | .bit0L => true
  | .bit0IndHL => true
  | .bit0A => true
  | .bit1B => true
  | .bit1C => true
  | .bit1D => true
  | .bit1E => true
  | .bit1H => true
  | .bit1L => true
  | .bit1IndHL => true
  | .bit1A => true
  | .bit2B => true
  | .bit2C => true
  | .bit2D => true
  | .bit2E => true
  | .bit2H => true
  | .bit2L => true
  | .bit2IndHL => true
  | .bit2A => true
  | .bit3B => true
  | .bit3C => true
  | .bit3D => true
  | .bit3E => true
  | .bit3H => true
  | .bit3L => true
  | .bit3IndHL => true
  | .bit3A => true
  | .bit4B => true
  | .bit4C => true
  | .bit4D => true
  | .bit4E => true
  | .bit4H => true
  | .bit4L => true
  | .bit4IndHL => true
  | .bit4A => true
  | .bit5B => true
  | .bit5C => true
  | .bit5D => true
  | .bit5E => true
  | .bit5H => true
  | .bit5L => true
  | .bit5IndHL => true
  | .bit5A => true
  | .bit6B => true
  | .bit6C => true
  | .bit6D => true
  | .bit6E => true
  | .bit6H => true
  | .bit6L => true
  | .bit6IndHL => true
  | .bit6A => true
  | .bit7B => true
  | .bit7C => true
  | .bit7D => true
  | .bit7E => true
  | .bit7H => true
  | .bit7L => true
  | .bit7IndHL => true
  | .bit7A => true
  | .res0B => true
  | .res0C => true
  | .res0D => true
  | .res0E => true
  | .res0H => true
  | .res0L => true
  | .res0IndHL => true
  | .res0A => true
  | .res1B => true
  | .res1C => true
  | .res1D => true
  | .res1E => true
  | .res1H => true
  | .res1L => true
  | .res1IndHL => true
  | .res1A => true
  | .res2B => true
  | .res2C => true
  | .res2D => true
  | .res2E => true
  | .res2H => true
  | .res2L => true
  | .res2IndHL => true
  | .res2A => true
  | .res3B => true
  | .res3C => true
  | .res3D => true
  | .res3E => true
  | .res3H => true
  | .res3L => true
  | .res3IndHL => true
  | .res3A => true
  | .res4B => true
  | .res4C => true
  | .res4D => true
  | .res4E => true
  | .res4H => true
  | .res4L => true
  | .res4IndHL => true
  | .res4A => true
  | .res5B => true
  | .res5C => true
  | .res5D => true
  | .res5E => true
  | .res5H => true
  | .res5L => true
  | .res5IndHL => true
  | .res5A => true
  | .res6B => true
  | .res6C => true
  | .res6D => true
  | .res6E => true
  | .res6H => true
  | .res6L => true
  | .res6IndHL => true
  | .res6A => true
  | .res7B => true
  | .res7C => true
  | .res7D => true
  | .res7E => true
  | .res7H => true
  | .res7L => true
  | .res7IndHL => true
  | .res7A => true
  | .set0B => true
  | .set0C => true
  | .set0D => true
  | .set0E => true
  | .set0H => true
  | .set0L => true
  | .set0IndHL => true
  | .set0A => true
  | .set1B => true
  | .set1C => true
  | .set1D => true
  | .set1E => true
  | .set1H => true
  | .set1L => true
  | .set1IndHL => true
  | .set1A => true
  | .set2B => true
  | .set2C => true
  | .set2D => true
  | .set2E => true
  | .set2H => true
  | .set2L => true
  | .set2IndHL => true
  | .set2A => true
  | .set3B => true
  | .set3C => true
  | .set3D => true
  | .set3E => true
  | .set3H => true
  | .set3L => true
  | .set3IndHL => true
  | .set3A => true
  | .set4B => true
  | .set4C => true
  | .set4D => true
  | .set4E => true
  | .set4H => true
  | .set4L => true
  | .set4IndHL => true
  | .set4A => true
  | .set5B => true
  | .set5C => true
  | .set5D => true
  | .set5E => true
  | .set5H => true
  | .set5L => true
  | .set5IndHL => true
  | .set5A => true
  | .set6B => true
  | .set6C => true
  | .set6D => true
  | .set6E => true
  | .set6H => true
  | .set6L => true
  | .set6IndHL => true
  | .set6A => true
  | .set7B => true
  | .set7C => true
  | .set7D => true
  | .set7E => true
  | .set7H => true
  | .set7L => true
  | .set7IndHL => true
  | .set7A => true

end Sys2Proof
end

