-- ==== Sys2Proof/Decode.lean ====
section
/-! DEFINITION. The decoder and the encoder (30_encoding.md), written from the opcode maps R168, R171 and the length
table R169. -/

namespace Sys2Proof

open Sys2Proof.Machine

/-- Why a byte list is no instruction. -/
inductive DecodeError where
  /-- The list ends before the instruction does. Bytes in memory never do: a fetch wraps at 0xFFFF (R103). -/
  | truncated
  deriving DecidableEq, Repr

/-- Row 0x of the CB map R171. -/
def cbRow0 : List Instr :=
  [.rlcB, .rlcC, .rlcD, .rlcE, .rlcH, .rlcL, .rlcIndHL, .rlcA,
   .rrcB, .rrcC, .rrcD, .rrcE, .rrcH, .rrcL, .rrcIndHL, .rrcA]

/-- Row 1x of the CB map R171. -/
def cbRow1 : List Instr :=
  [.rlB, .rlC, .rlD, .rlE, .rlH, .rlL, .rlIndHL, .rlA,
   .rrB, .rrC, .rrD, .rrE, .rrH, .rrL, .rrIndHL, .rrA]

/-- Row 2x of the CB map R171. -/
def cbRow2 : List Instr :=
  [.slaB, .slaC, .slaD, .slaE, .slaH, .slaL, .slaIndHL, .slaA,
   .sraB, .sraC, .sraD, .sraE, .sraH, .sraL, .sraIndHL, .sraA]

/-- Row 3x of the CB map R171. -/
def cbRow3 : List Instr :=
  [.swapB, .swapC, .swapD, .swapE, .swapH, .swapL, .swapIndHL, .swapA,
   .srlB, .srlC, .srlD, .srlE, .srlH, .srlL, .srlIndHL, .srlA]

/-- Row 4x of the CB map R171. -/
def cbRow4 : List Instr :=
  [.bit0B, .bit0C, .bit0D, .bit0E, .bit0H, .bit0L, .bit0IndHL, .bit0A,
   .bit1B, .bit1C, .bit1D, .bit1E, .bit1H, .bit1L, .bit1IndHL, .bit1A]

/-- Row 5x of the CB map R171. -/
def cbRow5 : List Instr :=
  [.bit2B, .bit2C, .bit2D, .bit2E, .bit2H, .bit2L, .bit2IndHL, .bit2A,
   .bit3B, .bit3C, .bit3D, .bit3E, .bit3H, .bit3L, .bit3IndHL, .bit3A]

/-- Row 6x of the CB map R171. -/
def cbRow6 : List Instr :=
  [.bit4B, .bit4C, .bit4D, .bit4E, .bit4H, .bit4L, .bit4IndHL, .bit4A,
   .bit5B, .bit5C, .bit5D, .bit5E, .bit5H, .bit5L, .bit5IndHL, .bit5A]

/-- Row 7x of the CB map R171. -/
def cbRow7 : List Instr :=
  [.bit6B, .bit6C, .bit6D, .bit6E, .bit6H, .bit6L, .bit6IndHL, .bit6A,
   .bit7B, .bit7C, .bit7D, .bit7E, .bit7H, .bit7L, .bit7IndHL, .bit7A]

/-- Row 8x of the CB map R171. -/
def cbRow8 : List Instr :=
  [.res0B, .res0C, .res0D, .res0E, .res0H, .res0L, .res0IndHL, .res0A,
   .res1B, .res1C, .res1D, .res1E, .res1H, .res1L, .res1IndHL, .res1A]

/-- Row 9x of the CB map R171. -/
def cbRow9 : List Instr :=
  [.res2B, .res2C, .res2D, .res2E, .res2H, .res2L, .res2IndHL, .res2A,
   .res3B, .res3C, .res3D, .res3E, .res3H, .res3L, .res3IndHL, .res3A]

/-- Row Ax of the CB map R171. -/
def cbRowA : List Instr :=
  [.res4B, .res4C, .res4D, .res4E, .res4H, .res4L, .res4IndHL, .res4A,
   .res5B, .res5C, .res5D, .res5E, .res5H, .res5L, .res5IndHL, .res5A]

/-- Row Bx of the CB map R171. -/
def cbRowB : List Instr :=
  [.res6B, .res6C, .res6D, .res6E, .res6H, .res6L, .res6IndHL, .res6A,
   .res7B, .res7C, .res7D, .res7E, .res7H, .res7L, .res7IndHL, .res7A]

/-- Row Cx of the CB map R171. -/
def cbRowC : List Instr :=
  [.set0B, .set0C, .set0D, .set0E, .set0H, .set0L, .set0IndHL, .set0A,
   .set1B, .set1C, .set1D, .set1E, .set1H, .set1L, .set1IndHL, .set1A]

/-- Row Dx of the CB map R171. -/
def cbRowD : List Instr :=
  [.set2B, .set2C, .set2D, .set2E, .set2H, .set2L, .set2IndHL, .set2A,
   .set3B, .set3C, .set3D, .set3E, .set3H, .set3L, .set3IndHL, .set3A]

/-- Row Ex of the CB map R171. -/
def cbRowE : List Instr :=
  [.set4B, .set4C, .set4D, .set4E, .set4H, .set4L, .set4IndHL, .set4A,
   .set5B, .set5C, .set5D, .set5E, .set5H, .set5L, .set5IndHL, .set5A]

/-- Row Fx of the CB map R171. -/
def cbRowF : List Instr :=
  [.set6B, .set6C, .set6D, .set6E, .set6H, .set6L, .set6IndHL, .set6A,
   .set7B, .set7C, .set7D, .set7E, .set7H, .set7L, .set7IndHL, .set7A]

/-- The CB map R171, row by high nibble, column by low nibble. -/
def cbMap : List (List Instr) :=
  [cbRow0, cbRow1, cbRow2, cbRow3, cbRow4, cbRow5, cbRow6, cbRow7,
   cbRow8, cbRow9, cbRowA, cbRowB, cbRowC, cbRowD, cbRowE, cbRowF]

/-- The CB instruction that the byte after 0xCB names (R171). All 256 values are assigned. -/
def decodeCb (cbop : Byte) : Instr :=
  (cbMap.getD (cbop.toNat / 16) []).getD (cbop.toNat % 16) .nop

/-- Row 0x of the primary map R168: the instruction from the two bytes after the opcode, of which it takes those
its length asks for. -/
def primaryRow0 : List (Byte → Byte → Instr) :=
  [fun _ _ => .nop,
   fun lo hi => .ldBCD16 (cat hi lo),
   fun _ _ => .ldIndBCA,
   fun _ _ => .incBC,
   fun _ _ => .incB,
   fun _ _ => .decB,
   fun lo _ => .ldBD8 lo,
   fun _ _ => .rlca,
   fun lo hi => .ldIndA16SP (cat hi lo),
   fun _ _ => .addHLBC,
   fun _ _ => .ldAIndBC,
   fun _ _ => .decBC,
   fun _ _ => .incC,
   fun _ _ => .decC,
   fun lo _ => .ldCD8 lo,
   fun _ _ => .rrca]

/-- Row 1x of the primary map R168: the instruction from the two bytes after the opcode, of which it takes those
its length asks for. -/
def primaryRow1 : List (Byte → Byte → Instr) :=
  [fun lo _ => .stop lo,
   fun lo hi => .ldDED16 (cat hi lo),
   fun _ _ => .ldIndDEA,
   fun _ _ => .incDE,
   fun _ _ => .incD,
   fun _ _ => .decD,
   fun lo _ => .ldDD8 lo,
   fun _ _ => .rla,
   fun lo _ => .jrDisp lo,
   fun _ _ => .addHLDE,
   fun _ _ => .ldAIndDE,
   fun _ _ => .decDE,
   fun _ _ => .incE,
   fun _ _ => .decE,
   fun lo _ => .ldED8 lo,
   fun _ _ => .rra]

/-- Row 2x of the primary map R168: the instruction from the two bytes after the opcode, of which it takes those
its length asks for. -/
def primaryRow2 : List (Byte → Byte → Instr) :=
  [fun lo _ => .jrNZDisp lo,
   fun lo hi => .ldHLD16 (cat hi lo),
   fun _ _ => .ldIndHLIncA,
   fun _ _ => .incHL,
   fun _ _ => .incH,
   fun _ _ => .decH,
   fun lo _ => .ldHD8 lo,
   fun _ _ => .daa,
   fun lo _ => .jrZDisp lo,
   fun _ _ => .addHLHL,
   fun _ _ => .ldAIndHLInc,
   fun _ _ => .decHL,
   fun _ _ => .incL,
   fun _ _ => .decL,
   fun lo _ => .ldLD8 lo,
   fun _ _ => .cpl]

/-- Row 3x of the primary map R168: the instruction from the two bytes after the opcode, of which it takes those
its length asks for. -/
def primaryRow3 : List (Byte → Byte → Instr) :=
  [fun lo _ => .jrNCDisp lo,
   fun lo hi => .ldSPD16 (cat hi lo),
   fun _ _ => .ldIndHLDecA,
   fun _ _ => .incSP,
   fun _ _ => .incIndHL,
   fun _ _ => .decIndHL,
   fun lo _ => .ldIndHLD8 lo,
   fun _ _ => .scf,
   fun lo _ => .jrCDisp lo,
   fun _ _ => .addHLSP,
   fun _ _ => .ldAIndHLDec,
   fun _ _ => .decSP,
   fun _ _ => .incA,
   fun _ _ => .decA,
   fun lo _ => .ldAD8 lo,
   fun _ _ => .ccf]

/-- Row 4x of the primary map R168: the instruction from the two bytes after the opcode, of which it takes those
its length asks for. -/
def primaryRow4 : List (Byte → Byte → Instr) :=
  [fun _ _ => .ldBB,
   fun _ _ => .ldBC,
   fun _ _ => .ldBD,
   fun _ _ => .ldBE,
   fun _ _ => .ldBH,
   fun _ _ => .ldBL,
   fun _ _ => .ldBIndHL,
   fun _ _ => .ldBA,
   fun _ _ => .ldCB,
   fun _ _ => .ldCC,
   fun _ _ => .ldCD,
   fun _ _ => .ldCE,
   fun _ _ => .ldCH,
   fun _ _ => .ldCL,
   fun _ _ => .ldCIndHL,
   fun _ _ => .ldCA]

/-- Row 5x of the primary map R168: the instruction from the two bytes after the opcode, of which it takes those
its length asks for. -/
def primaryRow5 : List (Byte → Byte → Instr) :=
  [fun _ _ => .ldDB,
   fun _ _ => .ldDC,
   fun _ _ => .ldDD,
   fun _ _ => .ldDE,
   fun _ _ => .ldDH,
   fun _ _ => .ldDL,
   fun _ _ => .ldDIndHL,
   fun _ _ => .ldDA,
   fun _ _ => .ldEB,
   fun _ _ => .ldEC,
   fun _ _ => .ldED,
   fun _ _ => .ldEE,
   fun _ _ => .ldEH,
   fun _ _ => .ldEL,
   fun _ _ => .ldEIndHL,
   fun _ _ => .ldEA]

/-- Row 6x of the primary map R168: the instruction from the two bytes after the opcode, of which it takes those
its length asks for. -/
def primaryRow6 : List (Byte → Byte → Instr) :=
  [fun _ _ => .ldHB,
   fun _ _ => .ldHC,
   fun _ _ => .ldHD,
   fun _ _ => .ldHE,
   fun _ _ => .ldHH,
   fun _ _ => .ldHL,
   fun _ _ => .ldHIndHL,
   fun _ _ => .ldHA,
   fun _ _ => .ldLB,
   fun _ _ => .ldLC,
   fun _ _ => .ldLD,
   fun _ _ => .ldLE,
   fun _ _ => .ldLH,
   fun _ _ => .ldLL,
   fun _ _ => .ldLIndHL,
   fun _ _ => .ldLA]

/-- Row 7x of the primary map R168: the instruction from the two bytes after the opcode, of which it takes those
its length asks for. -/
def primaryRow7 : List (Byte → Byte → Instr) :=
  [fun _ _ => .ldIndHLB,
   fun _ _ => .ldIndHLC,
   fun _ _ => .ldIndHLD,
   fun _ _ => .ldIndHLE,
   fun _ _ => .ldIndHLH,
   fun _ _ => .ldIndHLL,
   fun _ _ => .halt,
   fun _ _ => .ldIndHLA,
   fun _ _ => .ldAB,
   fun _ _ => .ldAC,
   fun _ _ => .ldAD,
   fun _ _ => .ldAE,
   fun _ _ => .ldAH,
   fun _ _ => .ldAL,
   fun _ _ => .ldAIndHL,
   fun _ _ => .ldAA]

/-- Row 8x of the primary map R168: the instruction from the two bytes after the opcode, of which it takes those
its length asks for. -/
def primaryRow8 : List (Byte → Byte → Instr) :=
  [fun _ _ => .addAB,
   fun _ _ => .addAC,
   fun _ _ => .addAD,
   fun _ _ => .addAE,
   fun _ _ => .addAH,
   fun _ _ => .addAL,
   fun _ _ => .addAIndHL,
   fun _ _ => .addAA,
   fun _ _ => .adcAB,
   fun _ _ => .adcAC,
   fun _ _ => .adcAD,
   fun _ _ => .adcAE,
   fun _ _ => .adcAH,
   fun _ _ => .adcAL,
   fun _ _ => .adcAIndHL,
   fun _ _ => .adcAA]

/-- Row 9x of the primary map R168: the instruction from the two bytes after the opcode, of which it takes those
its length asks for. -/
def primaryRow9 : List (Byte → Byte → Instr) :=
  [fun _ _ => .subB,
   fun _ _ => .subC,
   fun _ _ => .subD,
   fun _ _ => .subE,
   fun _ _ => .subH,
   fun _ _ => .subL,
   fun _ _ => .subIndHL,
   fun _ _ => .subA,
   fun _ _ => .sbcAB,
   fun _ _ => .sbcAC,
   fun _ _ => .sbcAD,
   fun _ _ => .sbcAE,
   fun _ _ => .sbcAH,
   fun _ _ => .sbcAL,
   fun _ _ => .sbcAIndHL,
   fun _ _ => .sbcAA]

/-- Row Ax of the primary map R168: the instruction from the two bytes after the opcode, of which it takes those
its length asks for. -/
def primaryRowA : List (Byte → Byte → Instr) :=
  [fun _ _ => .andB,
   fun _ _ => .andC,
   fun _ _ => .andD,
   fun _ _ => .andE,
   fun _ _ => .andH,
   fun _ _ => .andL,
   fun _ _ => .andIndHL,
   fun _ _ => .andA,
   fun _ _ => .xorB,
   fun _ _ => .xorC,
   fun _ _ => .xorD,
   fun _ _ => .xorE,
   fun _ _ => .xorH,
   fun _ _ => .xorL,
   fun _ _ => .xorIndHL,
   fun _ _ => .xorA]

/-- Row Bx of the primary map R168: the instruction from the two bytes after the opcode, of which it takes those
its length asks for. -/
def primaryRowB : List (Byte → Byte → Instr) :=
  [fun _ _ => .orB,
   fun _ _ => .orC,
   fun _ _ => .orD,
   fun _ _ => .orE,
   fun _ _ => .orH,
   fun _ _ => .orL,
   fun _ _ => .orIndHL,
   fun _ _ => .orA,
   fun _ _ => .cpB,
   fun _ _ => .cpC,
   fun _ _ => .cpD,
   fun _ _ => .cpE,
   fun _ _ => .cpH,
   fun _ _ => .cpL,
   fun _ _ => .cpIndHL,
   fun _ _ => .cpA]

/-- Row Cx of the primary map R168: the instruction from the two bytes after the opcode, of which it takes those
its length asks for. -/
def primaryRowC : List (Byte → Byte → Instr) :=
  [fun _ _ => .retNZ,
   fun _ _ => .popBC,
   fun lo hi => .jpNZA16 (cat hi lo),
   fun lo hi => .jpA16 (cat hi lo),
   fun lo hi => .callNZA16 (cat hi lo),
   fun _ _ => .pushBC,
   fun lo _ => .addAD8 lo,
   fun _ _ => .rst00H,
   fun _ _ => .retZ,
   fun _ _ => .ret,
   fun lo hi => .jpZA16 (cat hi lo),
   fun lo _ => decodeCb lo,
   fun lo hi => .callZA16 (cat hi lo),
   fun lo hi => .callA16 (cat hi lo),
   fun lo _ => .adcAD8 lo,
   fun _ _ => .rst08H]

/-- Row Dx of the primary map R168: the instruction from the two bytes after the opcode, of which it takes those
its length asks for. -/
def primaryRowD : List (Byte → Byte → Instr) :=
  [fun _ _ => .retNC,
   fun _ _ => .popDE,
   fun lo hi => .jpNCA16 (cat hi lo),
   fun _ _ => .illegal 0xD3,
   fun lo hi => .callNCA16 (cat hi lo),
   fun _ _ => .pushDE,
   fun lo _ => .subD8 lo,
   fun _ _ => .rst10H,
   fun _ _ => .retC,
   fun _ _ => .reti,
   fun lo hi => .jpCA16 (cat hi lo),
   fun _ _ => .illegal 0xDB,
   fun lo hi => .callCA16 (cat hi lo),
   fun _ _ => .illegal 0xDD,
   fun lo _ => .sbcAD8 lo,
   fun _ _ => .rst18H]

/-- Row Ex of the primary map R168: the instruction from the two bytes after the opcode, of which it takes those
its length asks for. -/
def primaryRowE : List (Byte → Byte → Instr) :=
  [fun lo _ => .ldhIndA8A lo,
   fun _ _ => .popHL,
   fun _ _ => .ldIndCA,
   fun _ _ => .illegal 0xE3,
   fun _ _ => .illegal 0xE4,
   fun _ _ => .pushHL,
   fun lo _ => .andD8 lo,
   fun _ _ => .rst20H,
   fun lo _ => .addSPDisp lo,
   fun _ _ => .jpHL,
   fun lo hi => .ldIndA16A (cat hi lo),
   fun _ _ => .illegal 0xEB,
   fun _ _ => .illegal 0xEC,
   fun _ _ => .illegal 0xED,
   fun lo _ => .xorD8 lo,
   fun _ _ => .rst28H]

/-- Row Fx of the primary map R168: the instruction from the two bytes after the opcode, of which it takes those
its length asks for. -/
def primaryRowF : List (Byte → Byte → Instr) :=
  [fun lo _ => .ldhAIndA8 lo,
   fun _ _ => .popAF,
   fun _ _ => .ldAIndC,
   fun _ _ => .di,
   fun _ _ => .illegal 0xF4,
   fun _ _ => .pushAF,
   fun lo _ => .orD8 lo,
   fun _ _ => .rst30H,
   fun lo _ => .ldHLSPDisp lo,
   fun _ _ => .ldSPHL,
   fun lo hi => .ldAIndA16 (cat hi lo),
   fun _ _ => .ei,
   fun _ _ => .illegal 0xFC,
   fun _ _ => .illegal 0xFD,
   fun lo _ => .cpD8 lo,
   fun _ _ => .rst38H]

/-- The primary map R168, row by high nibble, column by low nibble. -/
def primaryMap : List (List (Byte → Byte → Instr)) :=
  [primaryRow0, primaryRow1, primaryRow2, primaryRow3,
   primaryRow4, primaryRow5, primaryRow6, primaryRow7,
   primaryRow8, primaryRow9, primaryRowA, primaryRowB,
   primaryRowC, primaryRowD, primaryRowE, primaryRowF]

/-- The instruction of an opcode byte and the two bytes after it (R162, R168): total, since every byte value is a row
of the table (R174). -/
def decodeBytes (op b1 b2 : Byte) : Instr :=
  (primaryMap.getD (op.toNat / 16) []).getD (op.toNat % 16) (fun _ _ => .nop) b1 b2

/-- The length table R169, one list per high nibble. -/
def lengthMap : List (List Nat) :=
  [[1, 3, 1, 1, 1, 1, 2, 1, 3, 1, 1, 1, 1, 1, 2, 1],
   [2, 3, 1, 1, 1, 1, 2, 1, 2, 1, 1, 1, 1, 1, 2, 1],
   [2, 3, 1, 1, 1, 1, 2, 1, 2, 1, 1, 1, 1, 1, 2, 1],
   [2, 3, 1, 1, 1, 1, 2, 1, 2, 1, 1, 1, 1, 1, 2, 1],
   [1, 1, 1, 1, 1, 1, 1, 1, 1, 1, 1, 1, 1, 1, 1, 1],
   [1, 1, 1, 1, 1, 1, 1, 1, 1, 1, 1, 1, 1, 1, 1, 1],
   [1, 1, 1, 1, 1, 1, 1, 1, 1, 1, 1, 1, 1, 1, 1, 1],
   [1, 1, 1, 1, 1, 1, 1, 1, 1, 1, 1, 1, 1, 1, 1, 1],
   [1, 1, 1, 1, 1, 1, 1, 1, 1, 1, 1, 1, 1, 1, 1, 1],
   [1, 1, 1, 1, 1, 1, 1, 1, 1, 1, 1, 1, 1, 1, 1, 1],
   [1, 1, 1, 1, 1, 1, 1, 1, 1, 1, 1, 1, 1, 1, 1, 1],
   [1, 1, 1, 1, 1, 1, 1, 1, 1, 1, 1, 1, 1, 1, 1, 1],
   [1, 1, 3, 3, 3, 1, 2, 1, 1, 1, 3, 2, 3, 3, 2, 1],
   [1, 1, 3, 1, 3, 1, 2, 1, 1, 1, 3, 1, 3, 1, 2, 1],
   [2, 1, 1, 1, 1, 1, 2, 1, 2, 1, 3, 1, 1, 1, 2, 1],
   [2, 1, 1, 1, 1, 1, 2, 1, 2, 1, 3, 1, 1, 1, 2, 1]]

/-- `LEN[op]` of R169: the bytes of an instruction whose first byte is `op`, 0xCB's second byte counted. -/
def instrLength (op : Byte) : Nat :=
  (lengthMap.getD (op.toNat / 16) []).getD (op.toNat % 16) 1

/-- The decoder: the instruction at the head of a byte list and the bytes after it, or the reason there is none. -/
def decode : List Byte → Except DecodeError (Instr × List Byte)
  | [] => .error .truncated
  | [op] => if instrLength op ≤ 1 then .ok (decodeBytes op 0 0, []) else .error .truncated
  | [op, b1] => if instrLength op ≤ 2 then .ok (decodeBytes op b1 0, [b1].drop (instrLength op - 1)) else .error .truncated
  | op :: b1 :: b2 :: rest => .ok (decodeBytes op b1 b2, (b1 :: b2 :: rest).drop (instrLength op - 1))

/-- The words of an instruction, from the encodings of R168, R171 and the formats of R160. -/
def encode : Instr → List Byte
  | .nop => [0x00]
  | .ldBCD16 d16 => [0x01, loByte d16, hiByte d16]
  | .ldIndBCA => [0x02]
  | .incBC => [0x03]
  | .incB => [0x04]
  | .decB => [0x05]
  | .ldBD8 d8 => [0x06, d8]
  | .rlca => [0x07]
  | .ldIndA16SP a16 => [0x08, loByte a16, hiByte a16]
  | .addHLBC => [0x09]
  | .ldAIndBC => [0x0A]
  | .decBC => [0x0B]
  | .incC => [0x0C]
  | .decC => [0x0D]
  | .ldCD8 d8 => [0x0E, d8]
  | .rrca => [0x0F]
  | .stop d8 => [0x10, d8]
  | .ldDED16 d16 => [0x11, loByte d16, hiByte d16]
  | .ldIndDEA => [0x12]
  | .incDE => [0x13]
  | .incD => [0x14]
  | .decD => [0x15]
  | .ldDD8 d8 => [0x16, d8]
  | .rla => [0x17]
  | .jrDisp e => [0x18, e]
  | .addHLDE => [0x19]
  | .ldAIndDE => [0x1A]
  | .decDE => [0x1B]
  | .incE => [0x1C]
  | .decE => [0x1D]
  | .ldED8 d8 => [0x1E, d8]
  | .rra => [0x1F]
  | .jrNZDisp e => [0x20, e]
  | .ldHLD16 d16 => [0x21, loByte d16, hiByte d16]
  | .ldIndHLIncA => [0x22]
  | .incHL => [0x23]
  | .incH => [0x24]
  | .decH => [0x25]
  | .ldHD8 d8 => [0x26, d8]
  | .daa => [0x27]
  | .jrZDisp e => [0x28, e]
  | .addHLHL => [0x29]
  | .ldAIndHLInc => [0x2A]
  | .decHL => [0x2B]
  | .incL => [0x2C]
  | .decL => [0x2D]
  | .ldLD8 d8 => [0x2E, d8]
  | .cpl => [0x2F]
  | .jrNCDisp e => [0x30, e]
  | .ldSPD16 d16 => [0x31, loByte d16, hiByte d16]
  | .ldIndHLDecA => [0x32]
  | .incSP => [0x33]
  | .incIndHL => [0x34]
  | .decIndHL => [0x35]
  | .ldIndHLD8 d8 => [0x36, d8]
  | .scf => [0x37]
  | .jrCDisp e => [0x38, e]
  | .addHLSP => [0x39]
  | .ldAIndHLDec => [0x3A]
  | .decSP => [0x3B]
  | .incA => [0x3C]
  | .decA => [0x3D]
  | .ldAD8 d8 => [0x3E, d8]
  | .ccf => [0x3F]
  | .ldBB => [0x40]
  | .ldBC => [0x41]
  | .ldBD => [0x42]
  | .ldBE => [0x43]
  | .ldBH => [0x44]
  | .ldBL => [0x45]
  | .ldBIndHL => [0x46]
  | .ldBA => [0x47]
  | .ldCB => [0x48]
  | .ldCC => [0x49]
  | .ldCD => [0x4A]
  | .ldCE => [0x4B]
  | .ldCH => [0x4C]
  | .ldCL => [0x4D]
  | .ldCIndHL => [0x4E]
  | .ldCA => [0x4F]
  | .ldDB => [0x50]
  | .ldDC => [0x51]
  | .ldDD => [0x52]
  | .ldDE => [0x53]
  | .ldDH => [0x54]
  | .ldDL => [0x55]
  | .ldDIndHL => [0x56]
  | .ldDA => [0x57]
  | .ldEB => [0x58]
  | .ldEC => [0x59]
  | .ldED => [0x5A]
  | .ldEE => [0x5B]
  | .ldEH => [0x5C]
  | .ldEL => [0x5D]
  | .ldEIndHL => [0x5E]
  | .ldEA => [0x5F]
  | .ldHB => [0x60]
  | .ldHC => [0x61]
  | .ldHD => [0x62]
  | .ldHE => [0x63]
  | .ldHH => [0x64]
  | .ldHL => [0x65]
  | .ldHIndHL => [0x66]
  | .ldHA => [0x67]
  | .ldLB => [0x68]
  | .ldLC => [0x69]
  | .ldLD => [0x6A]
  | .ldLE => [0x6B]
  | .ldLH => [0x6C]
  | .ldLL => [0x6D]
  | .ldLIndHL => [0x6E]
  | .ldLA => [0x6F]
  | .ldIndHLB => [0x70]
  | .ldIndHLC => [0x71]
  | .ldIndHLD => [0x72]
  | .ldIndHLE => [0x73]
  | .ldIndHLH => [0x74]
  | .ldIndHLL => [0x75]
  | .halt => [0x76]
  | .ldIndHLA => [0x77]
  | .ldAB => [0x78]
  | .ldAC => [0x79]
  | .ldAD => [0x7A]
  | .ldAE => [0x7B]
  | .ldAH => [0x7C]
  | .ldAL => [0x7D]
  | .ldAIndHL => [0x7E]
  | .ldAA => [0x7F]
  | .addAB => [0x80]
  | .addAC => [0x81]
  | .addAD => [0x82]
  | .addAE => [0x83]
  | .addAH => [0x84]
  | .addAL => [0x85]
  | .addAIndHL => [0x86]
  | .addAA => [0x87]
  | .adcAB => [0x88]
  | .adcAC => [0x89]
  | .adcAD => [0x8A]
  | .adcAE => [0x8B]
  | .adcAH => [0x8C]
  | .adcAL => [0x8D]
  | .adcAIndHL => [0x8E]
  | .adcAA => [0x8F]
  | .subB => [0x90]
  | .subC => [0x91]
  | .subD => [0x92]
  | .subE => [0x93]
  | .subH => [0x94]
  | .subL => [0x95]
  | .subIndHL => [0x96]
  | .subA => [0x97]
  | .sbcAB => [0x98]
  | .sbcAC => [0x99]
  | .sbcAD => [0x9A]
  | .sbcAE => [0x9B]
  | .sbcAH => [0x9C]
  | .sbcAL => [0x9D]
  | .sbcAIndHL => [0x9E]
  | .sbcAA => [0x9F]
  | .andB => [0xA0]
  | .andC => [0xA1]
  | .andD => [0xA2]
  | .andE => [0xA3]
  | .andH => [0xA4]
  | .andL => [0xA5]
  | .andIndHL => [0xA6]
  | .andA => [0xA7]
  | .xorB => [0xA8]
  | .xorC => [0xA9]
  | .xorD => [0xAA]
  | .xorE => [0xAB]
  | .xorH => [0xAC]
  | .xorL => [0xAD]
  | .xorIndHL => [0xAE]
  | .xorA => [0xAF]
  | .orB => [0xB0]
  | .orC => [0xB1]
  | .orD => [0xB2]
  | .orE => [0xB3]
  | .orH => [0xB4]
  | .orL => [0xB5]
  | .orIndHL => [0xB6]
  | .orA => [0xB7]
  | .cpB => [0xB8]
  | .cpC => [0xB9]
  | .cpD => [0xBA]
  | .cpE => [0xBB]
  | .cpH => [0xBC]
  | .cpL => [0xBD]
  | .cpIndHL => [0xBE]
  | .cpA => [0xBF]
  | .retNZ => [0xC0]
  | .popBC => [0xC1]
  | .jpNZA16 a16 => [0xC2, loByte a16, hiByte a16]
  | .jpA16 a16 => [0xC3, loByte a16, hiByte a16]
  | .callNZA16 a16 => [0xC4, loByte a16, hiByte a16]
  | .pushBC => [0xC5]
  | .addAD8 d8 => [0xC6, d8]
  | .rst00H => [0xC7]
  | .retZ => [0xC8]
  | .ret => [0xC9]
  | .jpZA16 a16 => [0xCA, loByte a16, hiByte a16]
  | .prefixCB cbop => [0xCB, cbop]
  | .callZA16 a16 => [0xCC, loByte a16, hiByte a16]
  | .callA16 a16 => [0xCD, loByte a16, hiByte a16]
  | .adcAD8 d8 => [0xCE, d8]
  | .rst08H => [0xCF]
  | .retNC => [0xD0]
  | .popDE => [0xD1]
  | .jpNCA16 a16 => [0xD2, loByte a16, hiByte a16]
  | .illegal op => [op]
  | .callNCA16 a16 => [0xD4, loByte a16, hiByte a16]
  | .pushDE => [0xD5]
  | .subD8 d8 => [0xD6, d8]
  | .rst10H => [0xD7]
  | .retC => [0xD8]
  | .reti => [0xD9]
  | .jpCA16 a16 => [0xDA, loByte a16, hiByte a16]
  | .callCA16 a16 => [0xDC, loByte a16, hiByte a16]
  | .sbcAD8 d8 => [0xDE, d8]
  | .rst18H => [0xDF]
  | .ldhIndA8A a8 => [0xE0, a8]
  | .popHL => [0xE1]
  | .ldIndCA => [0xE2]
  | .pushHL => [0xE5]
  | .andD8 d8 => [0xE6, d8]
  | .rst20H => [0xE7]
  | .addSPDisp e => [0xE8, e]
  | .jpHL => [0xE9]
  | .ldIndA16A a16 => [0xEA, loByte a16, hiByte a16]
  | .xorD8 d8 => [0xEE, d8]
  | .rst28H => [0xEF]
  | .ldhAIndA8 a8 => [0xF0, a8]
  | .popAF => [0xF1]
  | .ldAIndC => [0xF2]
  | .di => [0xF3]
  | .pushAF => [0xF5]
  | .orD8 d8 => [0xF6, d8]
  | .rst30H => [0xF7]
  | .ldHLSPDisp e => [0xF8, e]
  | .ldSPHL => [0xF9]
  | .ldAIndA16 a16 => [0xFA, loByte a16, hiByte a16]
  | .ei => [0xFB]
  | .cpD8 d8 => [0xFE, d8]
  | .rst38H => [0xFF]
  | .rlcB => [0xCB, 0x00]
  | .rlcC => [0xCB, 0x01]
  | .rlcD => [0xCB, 0x02]
  | .rlcE => [0xCB, 0x03]
  | .rlcH => [0xCB, 0x04]
  | .rlcL => [0xCB, 0x05]
  | .rlcIndHL => [0xCB, 0x06]
  | .rlcA => [0xCB, 0x07]
  | .rrcB => [0xCB, 0x08]
  | .rrcC => [0xCB, 0x09]
  | .rrcD => [0xCB, 0x0A]
  | .rrcE => [0xCB, 0x0B]
  | .rrcH => [0xCB, 0x0C]
  | .rrcL => [0xCB, 0x0D]
  | .rrcIndHL => [0xCB, 0x0E]
  | .rrcA => [0xCB, 0x0F]
  | .rlB => [0xCB, 0x10]
  | .rlC => [0xCB, 0x11]
  | .rlD => [0xCB, 0x12]
  | .rlE => [0xCB, 0x13]
  | .rlH => [0xCB, 0x14]
  | .rlL => [0xCB, 0x15]
  | .rlIndHL => [0xCB, 0x16]
  | .rlA => [0xCB, 0x17]
  | .rrB => [0xCB, 0x18]
  | .rrC => [0xCB, 0x19]
  | .rrD => [0xCB, 0x1A]
  | .rrE => [0xCB, 0x1B]
  | .rrH => [0xCB, 0x1C]
  | .rrL => [0xCB, 0x1D]
  | .rrIndHL => [0xCB, 0x1E]
  | .rrA => [0xCB, 0x1F]
  | .slaB => [0xCB, 0x20]
  | .slaC => [0xCB, 0x21]
  | .slaD => [0xCB, 0x22]
  | .slaE => [0xCB, 0x23]
  | .slaH => [0xCB, 0x24]
  | .slaL => [0xCB, 0x25]
  | .slaIndHL => [0xCB, 0x26]
  | .slaA => [0xCB, 0x27]
  | .sraB => [0xCB, 0x28]
  | .sraC => [0xCB, 0x29]
  | .sraD => [0xCB, 0x2A]
  | .sraE => [0xCB, 0x2B]
  | .sraH => [0xCB, 0x2C]
  | .sraL => [0xCB, 0x2D]
  | .sraIndHL => [0xCB, 0x2E]
  | .sraA => [0xCB, 0x2F]
  | .swapB => [0xCB, 0x30]
  | .swapC => [0xCB, 0x31]
  | .swapD => [0xCB, 0x32]
  | .swapE => [0xCB, 0x33]
  | .swapH => [0xCB, 0x34]
  | .swapL => [0xCB, 0x35]
  | .swapIndHL => [0xCB, 0x36]
  | .swapA => [0xCB, 0x37]
  | .srlB => [0xCB, 0x38]
  | .srlC => [0xCB, 0x39]
  | .srlD => [0xCB, 0x3A]
  | .srlE => [0xCB, 0x3B]
  | .srlH => [0xCB, 0x3C]
  | .srlL => [0xCB, 0x3D]
  | .srlIndHL => [0xCB, 0x3E]
  | .srlA => [0xCB, 0x3F]
  | .bit0B => [0xCB, 0x40]
  | .bit0C => [0xCB, 0x41]
  | .bit0D => [0xCB, 0x42]
  | .bit0E => [0xCB, 0x43]
  | .bit0H => [0xCB, 0x44]
  | .bit0L => [0xCB, 0x45]
  | .bit0IndHL => [0xCB, 0x46]
  | .bit0A => [0xCB, 0x47]
  | .bit1B => [0xCB, 0x48]
  | .bit1C => [0xCB, 0x49]
  | .bit1D => [0xCB, 0x4A]
  | .bit1E => [0xCB, 0x4B]
  | .bit1H => [0xCB, 0x4C]
  | .bit1L => [0xCB, 0x4D]
  | .bit1IndHL => [0xCB, 0x4E]
  | .bit1A => [0xCB, 0x4F]
  | .bit2B => [0xCB, 0x50]
  | .bit2C => [0xCB, 0x51]
  | .bit2D => [0xCB, 0x52]
  | .bit2E => [0xCB, 0x53]
  | .bit2H => [0xCB, 0x54]
  | .bit2L => [0xCB, 0x55]
  | .bit2IndHL => [0xCB, 0x56]
  | .bit2A => [0xCB, 0x57]
  | .bit3B => [0xCB, 0x58]
  | .bit3C => [0xCB, 0x59]
  | .bit3D => [0xCB, 0x5A]
  | .bit3E => [0xCB, 0x5B]
  | .bit3H => [0xCB, 0x5C]
  | .bit3L => [0xCB, 0x5D]
  | .bit3IndHL => [0xCB, 0x5E]
  | .bit3A => [0xCB, 0x5F]
  | .bit4B => [0xCB, 0x60]
  | .bit4C => [0xCB, 0x61]
  | .bit4D => [0xCB, 0x62]
  | .bit4E => [0xCB, 0x63]
  | .bit4H => [0xCB, 0x64]
  | .bit4L => [0xCB, 0x65]
  | .bit4IndHL => [0xCB, 0x66]
  | .bit4A => [0xCB, 0x67]
  | .bit5B => [0xCB, 0x68]
  | .bit5C => [0xCB, 0x69]
  | .bit5D => [0xCB, 0x6A]
  | .bit5E => [0xCB, 0x6B]
  | .bit5H => [0xCB, 0x6C]
  | .bit5L => [0xCB, 0x6D]
  | .bit5IndHL => [0xCB, 0x6E]
  | .bit5A => [0xCB, 0x6F]
  | .bit6B => [0xCB, 0x70]
  | .bit6C => [0xCB, 0x71]
  | .bit6D => [0xCB, 0x72]
  | .bit6E => [0xCB, 0x73]
  | .bit6H => [0xCB, 0x74]
  | .bit6L => [0xCB, 0x75]
  | .bit6IndHL => [0xCB, 0x76]
  | .bit6A => [0xCB, 0x77]
  | .bit7B => [0xCB, 0x78]
  | .bit7C => [0xCB, 0x79]
  | .bit7D => [0xCB, 0x7A]
  | .bit7E => [0xCB, 0x7B]
  | .bit7H => [0xCB, 0x7C]
  | .bit7L => [0xCB, 0x7D]
  | .bit7IndHL => [0xCB, 0x7E]
  | .bit7A => [0xCB, 0x7F]
  | .res0B => [0xCB, 0x80]
  | .res0C => [0xCB, 0x81]
  | .res0D => [0xCB, 0x82]
  | .res0E => [0xCB, 0x83]
  | .res0H => [0xCB, 0x84]
  | .res0L => [0xCB, 0x85]
  | .res0IndHL => [0xCB, 0x86]
  | .res0A => [0xCB, 0x87]
  | .res1B => [0xCB, 0x88]
  | .res1C => [0xCB, 0x89]
  | .res1D => [0xCB, 0x8A]
  | .res1E => [0xCB, 0x8B]
  | .res1H => [0xCB, 0x8C]
  | .res1L => [0xCB, 0x8D]
  | .res1IndHL => [0xCB, 0x8E]
  | .res1A => [0xCB, 0x8F]
  | .res2B => [0xCB, 0x90]
  | .res2C => [0xCB, 0x91]
  | .res2D => [0xCB, 0x92]
  | .res2E => [0xCB, 0x93]
  | .res2H => [0xCB, 0x94]
  | .res2L => [0xCB, 0x95]
  | .res2IndHL => [0xCB, 0x96]
  | .res2A => [0xCB, 0x97]
  | .res3B => [0xCB, 0x98]
  | .res3C => [0xCB, 0x99]
  | .res3D => [0xCB, 0x9A]
  | .res3E => [0xCB, 0x9B]
  | .res3H => [0xCB, 0x9C]
  | .res3L => [0xCB, 0x9D]
  | .res3IndHL => [0xCB, 0x9E]
  | .res3A => [0xCB, 0x9F]
  | .res4B => [0xCB, 0xA0]
  | .res4C => [0xCB, 0xA1]
  | .res4D => [0xCB, 0xA2]
  | .res4E => [0xCB, 0xA3]
  | .res4H => [0xCB, 0xA4]
  | .res4L => [0xCB, 0xA5]
  | .res4IndHL => [0xCB, 0xA6]
  | .res4A => [0xCB, 0xA7]
  | .res5B => [0xCB, 0xA8]
  | .res5C => [0xCB, 0xA9]
  | .res5D => [0xCB, 0xAA]
  | .res5E => [0xCB, 0xAB]
  | .res5H => [0xCB, 0xAC]
  | .res5L => [0xCB, 0xAD]
  | .res5IndHL => [0xCB, 0xAE]
  | .res5A => [0xCB, 0xAF]
  | .res6B => [0xCB, 0xB0]
  | .res6C => [0xCB, 0xB1]
  | .res6D => [0xCB, 0xB2]
  | .res6E => [0xCB, 0xB3]
  | .res6H => [0xCB, 0xB4]
  | .res6L => [0xCB, 0xB5]
  | .res6IndHL => [0xCB, 0xB6]
  | .res6A => [0xCB, 0xB7]
  | .res7B => [0xCB, 0xB8]
  | .res7C => [0xCB, 0xB9]
  | .res7D => [0xCB, 0xBA]
  | .res7E => [0xCB, 0xBB]
  | .res7H => [0xCB, 0xBC]
  | .res7L => [0xCB, 0xBD]
  | .res7IndHL => [0xCB, 0xBE]
  | .res7A => [0xCB, 0xBF]
  | .set0B => [0xCB, 0xC0]
  | .set0C => [0xCB, 0xC1]
  | .set0D => [0xCB, 0xC2]
  | .set0E => [0xCB, 0xC3]
  | .set0H => [0xCB, 0xC4]
  | .set0L => [0xCB, 0xC5]
  | .set0IndHL => [0xCB, 0xC6]
  | .set0A => [0xCB, 0xC7]
  | .set1B => [0xCB, 0xC8]
  | .set1C => [0xCB, 0xC9]
  | .set1D => [0xCB, 0xCA]
  | .set1E => [0xCB, 0xCB]
  | .set1H => [0xCB, 0xCC]
  | .set1L => [0xCB, 0xCD]
  | .set1IndHL => [0xCB, 0xCE]
  | .set1A => [0xCB, 0xCF]
  | .set2B => [0xCB, 0xD0]
  | .set2C => [0xCB, 0xD1]
  | .set2D => [0xCB, 0xD2]
  | .set2E => [0xCB, 0xD3]
  | .set2H => [0xCB, 0xD4]
  | .set2L => [0xCB, 0xD5]
  | .set2IndHL => [0xCB, 0xD6]
  | .set2A => [0xCB, 0xD7]
  | .set3B => [0xCB, 0xD8]
  | .set3C => [0xCB, 0xD9]
  | .set3D => [0xCB, 0xDA]
  | .set3E => [0xCB, 0xDB]
  | .set3H => [0xCB, 0xDC]
  | .set3L => [0xCB, 0xDD]
  | .set3IndHL => [0xCB, 0xDE]
  | .set3A => [0xCB, 0xDF]
  | .set4B => [0xCB, 0xE0]
  | .set4C => [0xCB, 0xE1]
  | .set4D => [0xCB, 0xE2]
  | .set4E => [0xCB, 0xE3]
  | .set4H => [0xCB, 0xE4]
  | .set4L => [0xCB, 0xE5]
  | .set4IndHL => [0xCB, 0xE6]
  | .set4A => [0xCB, 0xE7]
  | .set5B => [0xCB, 0xE8]
  | .set5C => [0xCB, 0xE9]
  | .set5D => [0xCB, 0xEA]
  | .set5E => [0xCB, 0xEB]
  | .set5H => [0xCB, 0xEC]
  | .set5L => [0xCB, 0xED]
  | .set5IndHL => [0xCB, 0xEE]
  | .set5A => [0xCB, 0xEF]
  | .set6B => [0xCB, 0xF0]
  | .set6C => [0xCB, 0xF1]
  | .set6D => [0xCB, 0xF2]
  | .set6E => [0xCB, 0xF3]
  | .set6H => [0xCB, 0xF4]
  | .set6L => [0xCB, 0xF5]
  | .set6IndHL => [0xCB, 0xF6]
  | .set6A => [0xCB, 0xF7]
  | .set7B => [0xCB, 0xF8]
  | .set7C => [0xCB, 0xF9]
  | .set7D => [0xCB, 0xFA]
  | .set7E => [0xCB, 0xFB]
  | .set7H => [0xCB, 0xFC]
  | .set7L => [0xCB, 0xFD]
  | .set7IndHL => [0xCB, 0xFE]
  | .set7A => [0xCB, 0xFF]

/-- The three bytes, lowest address first, of an instruction whose table bits are `w`. The table numbers a CB row's two
bytes as one number with 0xCB in bits 15-8 (spec/opcode_table.json, match 0xCBxx); every other row's first byte is bits
7-0. Log entry 13. -/
def tableBytes (nbits w : Nat) : Byte × Byte × Byte :=
  let v := w % 2 ^ nbits
  if nbits = 16 ∧ v / 256 = 0xCB then (0xCB, BitVec.ofNat 8 v, 0)
  else (BitVec.ofNat 8 v, BitVec.ofNat 8 (v / 256), BitVec.ofNat 8 (v / 65536))

/-- The instruction the decoder reads from an instruction whose bits are `w`, numbered as spec/opcode_table.json
numbers them. -/
def decodeTableWord (nbits w : Nat) : Option Instr :=
  let bytes := tableBytes nbits w
  match decode [bytes.1, bytes.2.1, bytes.2.2] with
  | .ok r => some r.1
  | .error _ => none

end Sys2Proof
end

