-- ==== Sys2Proof/Machine/Fetch.lean ====
section
/-! DEFINITION. Fetching an instruction (30_encoding.md R162): the opcode byte, then the bytes its length asks for,
each read through the MMU with PC moving past it, before any effect of the instruction. -/

namespace Sys2Proof.Machine

/-- The instruction at PC and the state with PC past it (R162). -/
def State.fetchInstr (s : State) : Instr × State :=
  let r0 := s.fetch8
  match instrLength r0.1 with
  | 0 => (decodeBytes r0.1 0 0, r0.2)
  | 1 => (decodeBytes r0.1 0 0, r0.2)
  | 2 =>
    let r1 := r0.2.fetch8
    (decodeBytes r0.1 r1.1 0, r1.2)
  | _ =>
    let r1 := r0.2.fetch8
    let r2 := r1.2.fetch8
    (decodeBytes r0.1 r1.1 r2.1, r2.2)

/-- Whether the three bytes from PC lie in ROM bank 0, inside the image. -/
def State.pcInRom (s : State) : Bool :=
  decide (s.cpu.pc.toNat + 2 < 0x4000) && decide (s.cpu.pc.toNat + 2 < s.cart.rom.size)

/-- Three bytes stored where they will be fetched: at PC in the ROM image, or, where PC is not in ROM bank 0, in
working RAM at 0xC000 with PC moved there (log entry 20). -/
def State.placeCode (s : State) (b : Byte × Byte × Byte) : State :=
  if s.pcInRom then
    let a := s.cpu.pc.toNat
    let bytes := ((s.cart.rom.bytes.write a b.1).write (a + 1) b.2.1).write (a + 2) b.2.2
    { s with cart := { s.cart with rom := { s.cart.rom with bytes := bytes } } }
  else (((s.setMem 0xC000 b.1).setMem 0xC001 b.2.1).setMem 0xC002 b.2.2).setPc 0xC000

end Sys2Proof.Machine
end

