-- ==== Sys2Proof/Machine/HostCalls.lean ====
section
/-! DEFINITION. The host interface (60_exceptions.md R480 to R483): the calls of a boundary between machine steps. -/

namespace Sys2Proof.Machine

/-- `press(b)` of R480, b ≤ 7. -/
def State.press (s : State) (b : Nat) : State :=
  let s1 := if s.params.joypadIrq = .onPress ∧ bit s.controls b = true then s.requestInterrupt 4 else s
  { s1 with controls := clearBit s1.controls b }

/-- `release(b)` of R480, b ≤ 7. -/
def State.release (s : State) (b : Nat) : State := { s with controls := setBit s.controls b }

/-- `release_all()` of R480. -/
def State.releaseAll (s : State) : State := { s with controls := 0xFF }

/-- The .sav file of the ROM file `p`, where there is one. -/
def findSav : SavFiles → Nat → Option SaveData
  | [], _ => none
  | (q, d) :: m, p => if p = q then some d else findSav m p

/-- The .sav file of the ROM file `p` written, the others as they are. -/
def putSav : SavFiles → Nat → SaveData → SavFiles
  | [], p, d => [(p, d)]
  | (q, e) :: m, p, d =>
    if p < q then (p, d) :: (q, e) :: m else if p = q then (p, d) :: m else (q, e) :: putSav m p d

/-- The .sav file of the ROM file `p` removed. -/
def dropSav : SavFiles → Nat → SavFiles
  | [], _ => []
  | (q, e) :: m, p => if p = q then dropSav m p else (q, e) :: dropSav m p

/-- The file `<rom_filename>.sav` of the loaded ROM (R482). -/
def State.savFile (s : State) : Option SaveData := findSav s.hostSide.savFiles s.hostSide.romPath

/-- The .sav files after a change of one of them. -/
def State.setSav (s : State) (path : Nat) (file : Option SaveData) : State :=
  { s with hostSide := { s.hostSide with savFiles := match file with
    | some d => putSav s.hostSide.savFiles path d
    | none => dropSav s.hostSide.savFiles path } }

/-- What `save_state()` writes (R482): the RAM image, in DMG mode MEM only, and the CpuState block. -/
def State.saveImage (s : State) : SaveData where
  ram := if s.isCgb then s.ram else { mem := s.ram.mem, vram1 := [], wramx := [], bgPal := [], objPal := [] }
  cpu := s.cpu
  writtenUnder := some s.cart.rom

/-- `save_state()` of R482. -/
def State.saveState (s : State) : State := s.setSav s.hostSide.romPath (some s.saveImage)

/-- The restored memory (R482), each store in its canonical form; the CGB stores in CGB mode only. -/
def State.restoreRam (s : State) (saved : Ram) : Ram :=
  let mem := Store.fill 0x8000 0x10000 saved.mem
  if s.isCgb then
    { mem := mem
      vram1 := Store.fill 0 0x2000 saved.vram1
      wramx := Store.fill 0x2000 0x8000 saved.wramx
      bgPal := Store.fill 0 64 saved.bgPal
      objPal := Store.fill 0 64 saved.objPal }
  else { s.ram with mem := mem }

/-- What `load_state` tells the host. -/
def State.report (s : State) (ok : Bool) : State :=
  { s with hostSide := { s.hostSide with loadReport := some ok } }

/-- `SAME_ROM(blob, rom)` of R482: true of a file that `save_state` wrote under this very image, since a save followed by
a load restores; of any other file it is free (log entry 5). -/
def sameRom (d : SaveData) (rom : RomImage) : Bool := decide (d.writtenUnder = some rom) || Config.sameRom d rom

/-- `load_state()` of R482: exactly the saved components are restored, F with its low nibble 0 (R33); with no file, or
a file of another ROM, the failure is reported and no state changes. -/
def State.loadState (s : State) : State :=
  match s.savFile with
  | none => s.report false
  | some d =>
    if sameRom d s.cart.rom then
      { s with ram := s.restoreRam d.ram, cpu := { d.cpu with f := d.cpu.f &&& 0xF0#8 } }.report true
    else s.report false

/-- `load_rom(path)` on a file that opens (R500): the whole machine is reset, and no .sav file is touched. The host's side
and the count of free values go on (log entries 4, 7 and 11). An empty image, which D41 excludes and no rule refuses, is
loaded like any other, every ROM byte then reading 0xFF: DESIGN CHOICE, unsafe, log entry 16. -/
def State.loadRom (s : State) (path : Nat) (image : RomImage) (draws : Ram) : State :=
  let s1 := State.loaded s.params image draws
  { s1 with
    hostSide := { s.hostSide with romPath := path }
    driver := { s1.driver with framesDone := s.driver.framesDone }
    divDraws := s.divDraws }

/-- A call allowed only between `next_frame` calls (R482, R483). -/
def State.betweenFrames (s : State) (t : State) : Result :=
  if s.driver.phase = .between then .next t else .refused .duringFrame

/-- One call of the host. -/
def hostCall (c : HostCall) (s : State) : Result :=
  match c with
  | .press b => if b < 8 then .next (s.press b) else .refused (.buttonId b)
  | .release b => if b < 8 then .next (s.release b) else .refused (.buttonId b)
  | .releaseAll => .next s.releaseAll
  | .saveState => s.betweenFrames s.saveState
  | .loadState => s.betweenFrames s.loadState
  | .loadRom _ none _ => .refused .romFileUnreadable
  | .loadRom path (some image) draws => s.betweenFrames (s.loadRom path image draws)
  | .touchSav path file => s.betweenFrames (s.setSav path file)

/-- The calls of one boundary, in order. -/
def hostCalls : List HostCall → State → Result
  | [], s => .next s
  | c :: cs, s =>
    match hostCall c s with
    | .next s1 => hostCalls cs s1
    | .fault r => .fault r
    | .refused r => .refused r

/-- The host's turn at a boundary between steps: the calls scheduled for it land (R480, log entry 7). -/
def hostTurn (s : State) : Result :=
  match s.hostSide.schedule with
  | [] => .next s
  | cs :: rest => hostCalls cs { s with hostSide := { s.hostSide with schedule := rest } }

end Sys2Proof.Machine
end

