-- ==== Sys2Proof/Machine/Step.lean ====
section
/-! DEFINITION. One step of the machine: the host calls of this boundary, the frame driver's transition where its
budget is used up, then one machine step (60_exceptions.md R401, R470, R471) while the budget lasts. -/

namespace Sys2Proof.Machine

/-- The state of a next outcome changed by `f`; any other outcome as it is. -/
def onNext (r : Result) (f : State → State) : Result :=
  match r with
  | .next s => .next (f s)
  | .fault e => .fault e
  | .refused e => .refused e

/-- `step()` of 30_encoding.md R162: 4 idle cycles while halted (47_system.md R351), else one instruction. -/
def cpuStep (s : State) : Result :=
  if s.cpu.halted then s.done 4 else exec s.fetchInstr.1 s.fetchInstr.2

/-- `MachineStep()` of R401, with its charge to cycle_balance (R470). -/
def machineStep (s : State) : Result := onNext (cpuStep s.beginStep) State.endStep

/-- One turn of `next_frame()`: a due transition, then a machine step if cycle_balance is positive (R470, R471). -/
def frameTurn (s : State) : Result :=
  if 0 < s.driverTurn.driver.cycleBalance then machineStep s.driverTurn else .next s.driverTurn

/-- One step of the machine. -/
def step (s : State) : Host.Outcome State Fault Refusal :=
  match hostTurn { s with stepCycles := 0 } with
  | .next s1 => frameTurn s1
  | .fault r => .fault r
  | .refused r => .refused r

/-- `s` with nothing between it and the fetch of its next instruction: no host call at this boundary, a budget left,
not halted, and no dispatch pending. At reset this changes nothing (log entry 20). -/
def State.readyToFetch (s : State) : State :=
  let s1 := match s.hostSide.schedule with
    | [] => s
    | [] :: _ => s
    | _ :: rest => { s with hostSide := { s.hostSide with schedule := [] :: rest } }
  let s2 := if 0 < s1.driverTurn.driver.cycleBalance then s1
    else { s1 with driver := { s1.driver with cycleBalance := 1 } }
  let s3 := { s2 with cpu := { s2.cpu with halted := false } }
  if s3.cpu.ime && decide (s3.driverTurn.pendingInterrupts ≠ 0) then { s3 with cpu := { s3.cpu with ime := false } }
  else s3

/-- `s` with the instruction whose table bits are `w` stored where step fetches its next instruction; the bits above
`nbits` are 0. -/
def State.withFetchWord (s : State) (nbits w : Nat) : State := s.readyToFetch.placeCode (tableBytes nbits w)

end Sys2Proof.Machine
end

