-- ==== Sys2Proof/Safety.lean ====
section
/-! DEFINITION. What claims are stated in: the canonical form of memory, the ranges and reserved bits that every
reachable state respects (10_state.md R33, R40 to R44), and a step that goes on. -/

namespace Sys2Proof.Machine

/-- Every memory store is in its canonical form over its own indexes (R41). -/
def Memory.wf (r : Ram) : Bool :=
  r.mem.wf 0x8000 0x10000 && r.vram1.wf 0 0x2000 && r.wramx.wf 0x2000 0x8000 && r.bgPal.wf 0 64 && r.objPal.wf 0 64

/-- The ROM image is in its canonical form, and `rom_bank_lo` is never 0 (R40). -/
def Cart.wf (c : Cart) : Bool := c.rom.bytes.wf 0 c.rom.size && decide (c.romBankLo ≠ 0)

/-- `div_acc` in 0..255 and `tima_acc` in 0..1023 (R42). -/
def Timer.wf (t : Timer) : Bool := decide (t.divAcc < 256) && decide (t.timaAcc < 1024)

/-- The line of a driver position is one that the position has (R471). -/
def Phase.wf : Phase → Bool
  | .between => true
  | .idle k => decide (k < 154)
  | .oam l => decide (l < 144)
  | .transfer l => decide (l < 144)
  | .hblank l => decide (l < 144)
  | .vblank l => decide (144 ≤ l) && decide (l < 154)

/-- The driver's position, the frame's canonical form, and at most one budget of 456 cycles to run (R470, R471). -/
def Driver.wf (d : Driver) : Bool := d.phase.wf && d.frame.wf 0 23040 && decide (d.cycleBalance ≤ 456)

/-- The invariant of the machine: bits 3-0 of F are 0 (R33), and each block is in its ranges. -/
abbrev State.Inv (s : State) : Prop :=
  s.cpu.f &&& 0x0F#8 = 0 ∧ Memory.wf s.ram = true ∧ s.cart.wf = true ∧ s.timer.wf = true ∧
    s.ppu.fb.wf 0 23040 = true ∧ s.driver.wf = true

/-- No host call is scheduled for the next boundary between steps. -/
abbrev State.noHostCall (s : State) : Prop := s.hostSide.schedule.headD [] = []

/-- A safe step is one that goes on: it answers a next state. -/
def State.goesOn (s : State) : Prop := ∃ t, step s = .next t

end Sys2Proof.Machine
end

