-- ==== Sys2Proof/Certificates/Slice0/Obligations.lean ====
section
/-! DEFINITION. The statements for the provers, and the tables they are stated with: the instruction of each form, its
words, what it writes, and its cost, each written from the rule of spec/ that its docstring names. -/

namespace Sys2Proof.Forms

open Sys2Proof.Machine

/-! ### Numbers of the operand fields (30_encoding.md R163, R165, R166) -/

/-- The field value of a register operand (R163). -/
def regField : Reg8 → Nat
  | .b => 0
  | .c => 1
  | .d => 2
  | .e => 3
  | .h => 4
  | .l => 5
  | .a => 7

/-- The ALU field (R166). -/
def aluField : AluOp → Nat
  | .add => 0
  | .adc => 1
  | .sub => 2
  | .sbc => 3
  | .and => 4
  | .xor => 5
  | .or => 6
  | .cp => 7

/-- The CB operation field (R166). -/
def rotField : RotOp → Nat
  | .rlc => 0
  | .rrc => 1
  | .rl => 2
  | .rr => 3
  | .sla => 4
  | .sra => 5
  | .swap => 6
  | .srl => 7

/-- The condition field (R165). -/
def condField : Cond → Nat
  | .nz => 0
  | .z => 1
  | .nc => 2
  | .c => 3

/-- A byte of a number. -/
def byte (n : Nat) : Byte := BitVec.ofNat 8 n

/-! ### The next state of an instruction that writes registers -/

/-- `s` with the CPU registers `c` and `n` more cycles; everything else of `s` as it is. -/
def after (s : State) (c : Cpu) (n : Nat) : State := { s with cpu := c, stepCycles := s.stepCycles + n }

/-- Whether a condition holds, by the bits of F (R326). -/
def holds (s : State) : Cond → Bool
  | .nz => !s.cpu.f.getLsbD 7
  | .z => s.cpu.f.getLsbD 7
  | .nc => !s.cpu.f.getLsbD 4
  | .c => s.cpu.f.getLsbD 4

/-- The old Z, N, H and C of F (R33). -/
def oldZ (s : State) : Bool := s.cpu.f.getLsbD 7

/-- The old N of F (R33). -/
def oldN (s : State) : Bool := s.cpu.f.getLsbD 6

/-- The old H of F (R33). -/
def oldH (s : State) : Bool := s.cpu.f.getLsbD 5

/-- The old C of F (R33). -/
def oldC (s : State) : Bool := s.cpu.f.getLsbD 4

/-! ### The instruction of each form -/

/-- `LD r,r'` (R200). -/
def ldRegInstr : Reg8 → Reg8 → Instr
  | .b, .b => .ldBB
  | .b, .c => .ldBC
  | .b, .d => .ldBD
  | .b, .e => .ldBE
  | .b, .h => .ldBH
  | .b, .l => .ldBL
  | .b, .a => .ldBA
  | .c, .b => .ldCB
  | .c, .c => .ldCC
  | .c, .d => .ldCD
  | .c, .e => .ldCE
  | .c, .h => .ldCH
  | .c, .l => .ldCL
  | .c, .a => .ldCA
  | .d, .b => .ldDB
  | .d, .c => .ldDC
  | .d, .d => .ldDD
  | .d, .e => .ldDE
  | .d, .h => .ldDH
  | .d, .l => .ldDL
  | .d, .a => .ldDA
  | .e, .b => .ldEB
  | .e, .c => .ldEC
  | .e, .d => .ldED
  | .e, .e => .ldEE
  | .e, .h => .ldEH
  | .e, .l => .ldEL
  | .e, .a => .ldEA
  | .h, .b => .ldHB
  | .h, .c => .ldHC
  | .h, .d => .ldHD
  | .h, .e => .ldHE
  | .h, .h => .ldHH
  | .h, .l => .ldHL
  | .h, .a => .ldHA
  | .l, .b => .ldLB
  | .l, .c => .ldLC
  | .l, .d => .ldLD
  | .l, .e => .ldLE
  | .l, .h => .ldLH
  | .l, .l => .ldLL
  | .l, .a => .ldLA
  | .a, .b => .ldAB
  | .a, .c => .ldAC
  | .a, .d => .ldAD
  | .a, .e => .ldAE
  | .a, .h => .ldAH
  | .a, .l => .ldAL
  | .a, .a => .ldAA

/-- `LD r,d8` (R201). -/
def ldImmInstr (d8 : Byte) : Reg8 → Instr
  | .b => .ldBD8 d8
  | .c => .ldCD8 d8
  | .d => .ldDD8 d8
  | .e => .ldED8 d8
  | .h => .ldHD8 d8
  | .l => .ldLD8 d8
  | .a => .ldAD8 d8

/-- `LD r,(HL)` (R202). -/
def ldFromHLInstr : Reg8 → Instr
  | .b => .ldBIndHL
  | .c => .ldCIndHL
  | .d => .ldDIndHL
  | .e => .ldEIndHL
  | .h => .ldHIndHL
  | .l => .ldLIndHL
  | .a => .ldAIndHL

/-- `LD (HL),r` (R203). -/
def stToHLInstr : Reg8 → Instr
  | .b => .ldIndHLB
  | .c => .ldIndHLC
  | .d => .ldIndHLD
  | .e => .ldIndHLE
  | .h => .ldIndHLH
  | .l => .ldIndHLL
  | .a => .ldIndHLA

/-- The register form of an ALU operation (R240). -/
def aluRegInstr : AluOp → Reg8 → Instr
  | .add, .b => .addAB
  | .add, .c => .addAC
  | .add, .d => .addAD
  | .add, .e => .addAE
  | .add, .h => .addAH
  | .add, .l => .addAL
  | .add, .a => .addAA
  | .adc, .b => .adcAB
  | .adc, .c => .adcAC
  | .adc, .d => .adcAD
  | .adc, .e => .adcAE
  | .adc, .h => .adcAH
  | .adc, .l => .adcAL
  | .adc, .a => .adcAA
  | .sub, .b => .subB
  | .sub, .c => .subC
  | .sub, .d => .subD
  | .sub, .e => .subE
  | .sub, .h => .subH
  | .sub, .l => .subL
  | .sub, .a => .subA
  | .sbc, .b => .sbcAB
  | .sbc, .c => .sbcAC
  | .sbc, .d => .sbcAD
  | .sbc, .e => .sbcAE
  | .sbc, .h => .sbcAH
  | .sbc, .l => .sbcAL
  | .sbc, .a => .sbcAA
  | .and, .b => .andB
  | .and, .c => .andC
  | .and, .d => .andD
  | .and, .e => .andE
  | .and, .h => .andH
  | .and, .l => .andL
  | .and, .a => .andA
  | .xor, .b => .xorB
  | .xor, .c => .xorC
  | .xor, .d => .xorD
  | .xor, .e => .xorE
  | .xor, .h => .xorH
  | .xor, .l => .xorL
  | .xor, .a => .xorA
  | .or, .b => .orB
  | .or, .c => .orC
  | .or, .d => .orD
  | .or, .e => .orE
  | .or, .h => .orH
  | .or, .l => .orL
  | .or, .a => .orA
  | .cp, .b => .cpB
  | .cp, .c => .cpC
  | .cp, .d => .cpD
  | .cp, .e => .cpE
  | .cp, .h => .cpH
  | .cp, .l => .cpL
  | .cp, .a => .cpA

/-- The memory form of an ALU operation (R240). -/
def aluHLInstr : AluOp → Instr
  | .add => .addAIndHL
  | .adc => .adcAIndHL
  | .sub => .subIndHL
  | .sbc => .sbcAIndHL
  | .and => .andIndHL
  | .xor => .xorIndHL
  | .or => .orIndHL
  | .cp => .cpIndHL

/-- The immediate form of an ALU operation (R240). -/
def aluImmInstr (d8 : Byte) : AluOp → Instr
  | .add => .addAD8 d8
  | .adc => .adcAD8 d8
  | .sub => .subD8 d8
  | .sbc => .sbcAD8 d8
  | .and => .andD8 d8
  | .xor => .xorD8 d8
  | .or => .orD8 d8
  | .cp => .cpD8 d8

/-- `INC r` (R274). -/
def incRegInstr : Reg8 → Instr
  | .b => .incB
  | .c => .incC
  | .d => .incD
  | .e => .incE
  | .h => .incH
  | .l => .incL
  | .a => .incA

/-- `DEC r` (R276). -/
def decRegInstr : Reg8 → Instr
  | .b => .decB
  | .c => .decC
  | .d => .decD
  | .e => .decE
  | .h => .decH
  | .l => .decL
  | .a => .decA

/-- A CB rotate or shift of a register (R304 to R318, even). -/
def rotRegInstr : RotOp → Reg8 → Instr
  | .rlc, .b => .rlcB
  | .rlc, .c => .rlcC
  | .rlc, .d => .rlcD
  | .rlc, .e => .rlcE
  | .rlc, .h => .rlcH
  | .rlc, .l => .rlcL
  | .rlc, .a => .rlcA
  | .rrc, .b => .rrcB
  | .rrc, .c => .rrcC
  | .rrc, .d => .rrcD
  | .rrc, .e => .rrcE
  | .rrc, .h => .rrcH
  | .rrc, .l => .rrcL
  | .rrc, .a => .rrcA
  | .rl, .b => .rlB
  | .rl, .c => .rlC
  | .rl, .d => .rlD
  | .rl, .e => .rlE
  | .rl, .h => .rlH
  | .rl, .l => .rlL
  | .rl, .a => .rlA
  | .rr, .b => .rrB
  | .rr, .c => .rrC
  | .rr, .d => .rrD
  | .rr, .e => .rrE
  | .rr, .h => .rrH
  | .rr, .l => .rrL
  | .rr, .a => .rrA
  | .sla, .b => .slaB
  | .sla, .c => .slaC
  | .sla, .d => .slaD
  | .sla, .e => .slaE
  | .sla, .h => .slaH
  | .sla, .l => .slaL
  | .sla, .a => .slaA
  | .sra, .b => .sraB
  | .sra, .c => .sraC
  | .sra, .d => .sraD
  | .sra, .e => .sraE
  | .sra, .h => .sraH
  | .sra, .l => .sraL
  | .sra, .a => .sraA
  | .swap, .b => .swapB
  | .swap, .c => .swapC
  | .swap, .d => .swapD
  | .swap, .e => .swapE
  | .swap, .h => .swapH
  | .swap, .l => .swapL
  | .swap, .a => .swapA
  | .srl, .b => .srlB
  | .srl, .c => .srlC
  | .srl, .d => .srlD
  | .srl, .e => .srlE
  | .srl, .h => .srlH
  | .srl, .l => .srlL
  | .srl, .a => .srlA

/-- A CB rotate or shift of the byte at HL (R305 to R319, odd). -/
def rotHLInstr : RotOp → Instr
  | .rlc => .rlcIndHL
  | .rrc => .rrcIndHL
  | .rl => .rlIndHL
  | .rr => .rrIndHL
  | .sla => .slaIndHL
  | .sra => .sraIndHL
  | .swap => .swapIndHL
  | .srl => .srlIndHL

/-- `BIT b,r` (R320). -/
def bitRegInstr (b : Fin 8) : Reg8 → Instr
  | .b => [.bit0B, .bit1B, .bit2B, .bit3B, .bit4B, .bit5B, .bit6B, .bit7B].getD b.val .nop
  | .c => [.bit0C, .bit1C, .bit2C, .bit3C, .bit4C, .bit5C, .bit6C, .bit7C].getD b.val .nop
  | .d => [.bit0D, .bit1D, .bit2D, .bit3D, .bit4D, .bit5D, .bit6D, .bit7D].getD b.val .nop
  | .e => [.bit0E, .bit1E, .bit2E, .bit3E, .bit4E, .bit5E, .bit6E, .bit7E].getD b.val .nop
  | .h => [.bit0H, .bit1H, .bit2H, .bit3H, .bit4H, .bit5H, .bit6H, .bit7H].getD b.val .nop
  | .l => [.bit0L, .bit1L, .bit2L, .bit3L, .bit4L, .bit5L, .bit6L, .bit7L].getD b.val .nop
  | .a => [.bit0A, .bit1A, .bit2A, .bit3A, .bit4A, .bit5A, .bit6A, .bit7A].getD b.val .nop

/-- `RES b,r` (R322). -/
def resRegInstr (b : Fin 8) : Reg8 → Instr
  | .b => [.res0B, .res1B, .res2B, .res3B, .res4B, .res5B, .res6B, .res7B].getD b.val .nop
  | .c => [.res0C, .res1C, .res2C, .res3C, .res4C, .res5C, .res6C, .res7C].getD b.val .nop
  | .d => [.res0D, .res1D, .res2D, .res3D, .res4D, .res5D, .res6D, .res7D].getD b.val .nop
  | .e => [.res0E, .res1E, .res2E, .res3E, .res4E, .res5E, .res6E, .res7E].getD b.val .nop
  | .h => [.res0H, .res1H, .res2H, .res3H, .res4H, .res5H, .res6H, .res7H].getD b.val .nop
  | .l => [.res0L, .res1L, .res2L, .res3L, .res4L, .res5L, .res6L, .res7L].getD b.val .nop
  | .a => [.res0A, .res1A, .res2A, .res3A, .res4A, .res5A, .res6A, .res7A].getD b.val .nop

/-- `SET b,r` (R324). -/
def setRegInstr (b : Fin 8) : Reg8 → Instr
  | .b => [.set0B, .set1B, .set2B, .set3B, .set4B, .set5B, .set6B, .set7B].getD b.val .nop
  | .c => [.set0C, .set1C, .set2C, .set3C, .set4C, .set5C, .set6C, .set7C].getD b.val .nop
  | .d => [.set0D, .set1D, .set2D, .set3D, .set4D, .set5D, .set6D, .set7D].getD b.val .nop
  | .e => [.set0E, .set1E, .set2E, .set3E, .set4E, .set5E, .set6E, .set7E].getD b.val .nop
  | .h => [.set0H, .set1H, .set2H, .set3H, .set4H, .set5H, .set6H, .set7H].getD b.val .nop
  | .l => [.set0L, .set1L, .set2L, .set3L, .set4L, .set5L, .set6L, .set7L].getD b.val .nop
  | .a => [.set0A, .set1A, .set2A, .set3A, .set4A, .set5A, .set6A, .set7A].getD b.val .nop

/-- `BIT b,(HL)` (R321). -/
def bitHLInstr (b : Fin 8) : Instr :=
  [.bit0IndHL, .bit1IndHL, .bit2IndHL, .bit3IndHL, .bit4IndHL, .bit5IndHL, .bit6IndHL, .bit7IndHL].getD b.val .nop

/-- `RES b,(HL)` (R323). -/
def resHLInstr (b : Fin 8) : Instr :=
  [.res0IndHL, .res1IndHL, .res2IndHL, .res3IndHL, .res4IndHL, .res5IndHL, .res6IndHL, .res7IndHL].getD b.val .nop

/-- `SET b,(HL)` (R325). -/
def setHLInstr (b : Fin 8) : Instr :=
  [.set0IndHL, .set1IndHL, .set2IndHL, .set3IndHL, .set4IndHL, .set5IndHL, .set6IndHL, .set7IndHL].getD b.val .nop

/-- `JP cc,a16` (R331). -/
def jpCondInstr (a16 : Word) : Cond → Instr
  | .nz => .jpNZA16 a16
  | .z => .jpZA16 a16
  | .nc => .jpNCA16 a16
  | .c => .jpCA16 a16

/-- `JR cc,e` (R334). -/
def jrCondInstr (e : Byte) : Cond → Instr
  | .nz => .jrNZDisp e
  | .z => .jrZDisp e
  | .nc => .jrNCDisp e
  | .c => .jrCDisp e

/-- `CALL cc,a16` (R336). -/
def callCondInstr (a16 : Word) : Cond → Instr
  | .nz => .callNZA16 a16
  | .z => .callZA16 a16
  | .nc => .callNCA16 a16
  | .c => .callCA16 a16

/-- `RET cc` (R338). -/
def retCondInstr : Cond → Instr
  | .nz => .retNZ
  | .z => .retZ
  | .nc => .retNC
  | .c => .retC

/-- `RST t` (R340). -/
def rstInstr (t : Fin 8) : Instr :=
  [.rst00H, .rst08H, .rst10H, .rst18H, .rst20H, .rst28H, .rst30H, .rst38H].getD t.val .nop

/-! ### The operand of the ALU group (42_alu8.md R240) -/

/-- The three forms of the operand. -/
inductive AluSrc where
  | reg (r : Reg8)
  | mem
  | imm (d8 : Byte)
  deriving DecidableEq, Repr

/-- The operand's value: a register, the byte at HL, or the immediate. -/
def AluSrc.value (s : State) : AluSrc → Byte
  | .reg r => s.getReg r
  | .mem => s.memRead s.hl
  | .imm d8 => d8

/-- The state after the operand is read: `s`, but for the draw that a read of 0xFF04 uses up with `DIV_READ = draw`. -/
def AluSrc.readState (s : State) : AluSrc → State
  | .reg _ => s
  | .mem => s.noteRead s.hl
  | .imm _ => s

/-- 4 cycles for a register, 8 for the other forms. -/
def AluSrc.cycles : AluSrc → Nat
  | .reg _ => 4
  | .mem => 8
  | .imm _ => 8

/-- The instruction of an operation and an operand form. -/
def aluInstr (op : AluOp) : AluSrc → Instr
  | .reg r => aluRegInstr op r
  | .mem => aluHLInstr op
  | .imm d8 => aluImmInstr d8 op

/-- Its words (R240): `10 yyy zzz`, `10 yyy 110`, or `11 yyy 110` and d8. -/
def aluBytes (op : AluOp) : AluSrc → List Byte
  | .reg r => [byte (0x80 + 8 * aluField op + regField r)]
  | .mem => [byte (0x86 + 8 * aluField op)]
  | .imm d8 => [byte (0xC6 + 8 * aluField op), d8]

/-! ### 8-bit loads and stores through memory (40_load8.md) -/

/-- The loads from memory that leave HL alone (R202, R205, R206, R209, R211, R213). -/
inductive LoadForm where
  | hl (r : Reg8)
  | bc
  | de
  | abs (a16 : Word)
  | high (a8 : Byte)
  | highC
  deriving DecidableEq, Repr

def LoadForm.instr : LoadForm → Instr
  | .hl r => ldFromHLInstr r
  | .bc => .ldAIndBC
  | .de => .ldAIndDE
  | .abs a16 => .ldAIndA16 a16
  | .high a8 => .ldhAIndA8 a8
  | .highC => .ldAIndC

def LoadForm.bytes : LoadForm → List Byte
  | .hl r => [byte (0x46 + 8 * regField r)]
  | .bc => [0x0A]
  | .de => [0x1A]
  | .abs a16 => [0xFA, loByte a16, hiByte a16]
  | .high a8 => [0xF0, a8]
  | .highC => [0xF2]

/-- The address read. -/
def LoadForm.addr (s : State) : LoadForm → Word
  | .hl _ => cat s.cpu.h s.cpu.l
  | .bc => cat s.cpu.b s.cpu.c
  | .de => cat s.cpu.d s.cpu.e
  | .abs a16 => a16
  | .high a8 => BitVec.ofNat 16 (0xFF00 + a8.toNat)
  | .highC => BitVec.ofNat 16 (0xFF00 + s.cpu.c.toNat)

def LoadForm.dest : LoadForm → Reg8
  | .hl r => r
  | _ => .a

def LoadForm.cycles : LoadForm → Nat
  | .abs _ => 16
  | .high _ => 12
  | _ => 8

/-- The stores to memory that leave HL alone (R203, R204, R207, R208, R210, R212, R214). -/
inductive StoreForm where
  | hl (r : Reg8)
  | hlImm (d8 : Byte)
  | bc
  | de
  | abs (a16 : Word)
  | high (a8 : Byte)
  | highC
  deriving DecidableEq, Repr

def StoreForm.instr : StoreForm → Instr
  | .hl r => stToHLInstr r
  | .hlImm d8 => .ldIndHLD8 d8
  | .bc => .ldIndBCA
  | .de => .ldIndDEA
  | .abs a16 => .ldIndA16A a16
  | .high a8 => .ldhIndA8A a8
  | .highC => .ldIndCA

def StoreForm.bytes : StoreForm → List Byte
  | .hl r => [byte (0x70 + regField r)]
  | .hlImm d8 => [0x36, d8]
  | .bc => [0x02]
  | .de => [0x12]
  | .abs a16 => [0xEA, loByte a16, hiByte a16]
  | .high a8 => [0xE0, a8]
  | .highC => [0xE2]

/-- The address stored to. -/
def StoreForm.addr (s : State) : StoreForm → Word
  | .hl _ => cat s.cpu.h s.cpu.l
  | .hlImm _ => cat s.cpu.h s.cpu.l
  | .bc => cat s.cpu.b s.cpu.c
  | .de => cat s.cpu.d s.cpu.e
  | .abs a16 => a16
  | .high a8 => BitVec.ofNat 16 (0xFF00 + a8.toNat)
  | .highC => BitVec.ofNat 16 (0xFF00 + s.cpu.c.toNat)

def StoreForm.value (s : State) : StoreForm → Byte
  | .hl r => s.getReg r
  | .hlImm d8 => d8
  | _ => s.cpu.a

def StoreForm.cycles : StoreForm → Nat
  | .hlImm _ => 12
  | .abs _ => 16
  | .high _ => 12
  | _ => 8

/-! ### Pair forms (30_encoding.md R164) -/

/-- `LD rp,d16` (R230): the pair, its opcode byte and the instruction. -/
def ldPairForms : List (Pair × Byte × (Word → Instr)) :=
  [(.bc, 0x01, .ldBCD16), (.de, 0x11, .ldDED16), (.hl, 0x21, .ldHLD16), (.sp, 0x31, .ldSPD16)]

/-- `PUSH rp2` (R233). -/
def pushForms : List (Pair × Byte × Instr) :=
  [(.bc, 0xC5, .pushBC), (.de, 0xD5, .pushDE), (.hl, 0xE5, .pushHL), (.af, 0xF5, .pushAF)]

/-- `POP rp2` (R234, R235). -/
def popForms : List (Pair × Byte × Instr) :=
  [(.bc, 0xC1, .popBC), (.de, 0xD1, .popDE), (.hl, 0xE1, .popHL), (.af, 0xF1, .popAF)]

/-- `INC rp` (R291). -/
def incPairForms : List (Pair × Byte × Instr) :=
  [(.bc, 0x03, .incBC), (.de, 0x13, .incDE), (.hl, 0x23, .incHL), (.sp, 0x33, .incSP)]

/-- `DEC rp` (R292). -/
def decPairForms : List (Pair × Byte × Instr) :=
  [(.bc, 0x0B, .decBC), (.de, 0x1B, .decDE), (.hl, 0x2B, .decHL), (.sp, 0x3B, .decSP)]

/-- `ADD HL,rp` (R290). -/
def addHLForms : List (Pair × Byte × Instr) :=
  [(.bc, 0x09, .addHLBC), (.de, 0x19, .addHLDE), (.hl, 0x29, .addHLHL), (.sp, 0x39, .addHLSP)]

/-- The accumulator rotates (R300 to R303): the CB operation of the same name, the opcode byte and the instruction. -/
def rotAForms : List (RotOp × Byte × Instr) :=
  [(.rlc, 0x07, .rlca), (.rrc, 0x0F, .rrca), (.rl, 0x17, .rla), (.rr, 0x1F, .rra)]

/-! ### Rotates and shifts as arithmetic (44_rotate_shift.md R300 to R319) -/

/-- The result of a rotate, shift or SWAP of the byte `v` with the old carry `c` (0 or 1). -/
def rotValue (op : RotOp) (v c : Nat) : Nat :=
  match op with
  | .rlc => v * 2 % 256 + v / 128
  | .rrc => v / 2 + 128 * (v % 2)
  | .rl => v * 2 % 256 + c
  | .rr => v / 2 + 128 * c
  | .sla => v * 2 % 256
  | .sra => v / 2 + 128 * (v / 128)
  | .swap => v % 16 * 16 + v / 16
  | .srl => v / 2

/-- The bit shifted out, or 0 for SWAP. -/
def rotCarry (op : RotOp) (v : Nat) : Bool :=
  match op with
  | .rlc => decide (128 ≤ v)
  | .rl => decide (128 ≤ v)
  | .sla => decide (128 ≤ v)
  | .rrc => decide (v % 2 = 1)
  | .rr => decide (v % 2 = 1)
  | .sra => decide (v % 2 = 1)
  | .srl => decide (v % 2 = 1)
  | .swap => false

/-- The byte at HL. -/
def atHL (s : State) : Byte := s.memRead (cat s.cpu.h s.cpu.l)

/-- `v & ~(1 << b)`, as a number. -/
def without (v b : Nat) : Nat := if v / 2 ^ b % 2 = 1 then v - 2 ^ b else v

/-- `v | (1 << b)`, as a number. -/
def withBit (v b : Nat) : Nat := if v / 2 ^ b % 2 = 1 then v else v + 2 ^ b

/-! ### The addresses that a store changes (20_memory.md R106, R107) -/

/-- Whether a store through the MMU at `a` may change what a later read of `b` gives: the byte itself, and the reads
behind the bank registers, OAM DMA and the CGB ports. -/
def touched (p : Params) (a b : Word) : Bool :=
  let cgb := decide (p.colorMode = .cgb)
  if a.toNat < 0x2000 then false
  else if a.toNat < 0x6000 then decide (0x4000 ≤ b.toNat) && decide (b.toNat < 0x8000)
  else if a.toNat < 0x8000 then false
  else if b = a then true
  else if a = 0xFF46#16 then decide (0xFE00 ≤ b.toNat) && decide (b.toNat < 0xFEA0)
  else if cgb && decide (a = 0xFF4F#16) then decide (0x8000 ≤ b.toNat) && decide (b.toNat < 0xA000)
  else if cgb && decide (a = 0xFF70#16) then decide (0xD000 ≤ b.toNat) && decide (b.toNat < 0xE000)
  else if cgb && decide (a = 0xFF68#16) then decide (b = 0xFF69#16)
  else if cgb && decide (a = 0xFF69#16) then decide (b = 0xFF68#16)
  else if cgb && decide (a = 0xFF6A#16) then decide (b = 0xFF6B#16)
  else if cgb && decide (a = 0xFF6B#16) then decide (b = 0xFF6A#16)
  else false

/-- An address whose byte is plain storage: a read gives what was last written (R105, R106). -/
def plain (p : Params) (a : Word) : Bool :=
  decide (0x8000 ≤ a.toNat) && decide (a ≠ 0xFF00#16) && decide (a ≠ 0xFF04#16) && decide (a ≠ 0xFF41#16) &&
    decide (a ≠ 0xFF44#16) && (decide (p.colorMode = .dmg) ||
      (decide (a ≠ 0xFF4D#16) && decide (a ≠ 0xFF69#16) && decide (a ≠ 0xFF6B#16)))

/-! ### What each instruction writes, by the fields of its bytes (30_encoding.md R161 to R166) -/

/-- The registers of a field value; none for 6, the byte at HL. -/
def fieldRegs (n : Nat) : List Reg8 := [[.b], [.c], [.d], [.e], [.h], [.l], [], [.a]].getD n []

/-- The 8-bit registers of a pair field; none for SP. -/
def pairRegs (p : Nat) : List Reg8 := [[.b, .c], [.d, .e], [.h, .l], []].getD p []

/-- The 8-bit registers that a primary opcode may write (files 40 to 47). -/
def primaryDest (op : Byte) : List Reg8 :=
  let x := op.toNat / 64
  let y := op.toNat / 8 % 8
  let z := op.toNat % 8
  match x with
  | 0 =>
    match z with
    | 1 => if y % 2 = 0 then pairRegs (y / 2) else [.h, .l]
    | 2 => (if y % 2 = 1 then [.a] else []) ++ (if 4 ≤ y then [.h, .l] else [])
    | 3 => pairRegs (y / 2)
    | 4 => fieldRegs y
    | 5 => fieldRegs y
    | 6 => fieldRegs y
    | 7 => if y < 6 then [.a] else []
    | _ => []
  | 1 => if op = 0x76#8 then [] else fieldRegs y
  | 2 => if y = 7 then [] else [.a]
  | _ =>
    if z = 1 ∧ y % 2 = 0 then (if y = 6 then [.a] else pairRegs (y / 2))
    else if z = 6 then (if y = 7 then [] else [.a])
    else if op = 0xF0#8 ∨ op = 0xF2#8 ∨ op = 0xFA#8 then [.a]
    else if op = 0xF8#8 then [.h, .l]
    else []

/-- The 8-bit registers that an instruction may write. -/
def destRegs (i : Instr) : List Reg8 :=
  let op := (encode i).headD 0
  let cbop := (encode i).getD 1 0
  if op = 0xCB#8 then (if cbop.toNat / 64 = 1 then [] else fieldRegs (cbop.toNat % 8)) else primaryDest op

/-- The opcode bytes of the instructions that write SP: the pair forms on SP, LD SP,HL, ADD SP,e, PUSH, POP, CALL, RET,
RETI and RST (R35). -/
def spOpcodes : List Byte :=
  [0x31, 0x33, 0x3B, 0xF9, 0xE8, 0xC5, 0xD5, 0xE5, 0xF5, 0xC1, 0xD1, 0xE1, 0xF1, 0xC4, 0xCC, 0xD4, 0xDC, 0xCD,
   0xC0, 0xC8, 0xD0, 0xD8, 0xC9, 0xD9, 0xC7, 0xCF, 0xD7, 0xDF, 0xE7, 0xEF, 0xF7, 0xFF]

/-- Which of Z, N, H and C an instruction may write, from the flag strings of files 40 to 47. -/
def flagsWritten (i : Instr) : Bool × Bool × Bool × Bool :=
  let op := (encode i).headD 0
  let cbop := (encode i).getD 1 0
  let y := op.toNat / 8 % 8
  let z := op.toNat % 8
  if op = 0xCB#8 then
    if cbop.toNat / 64 = 0 then (true, true, true, true)
    else if cbop.toNat / 64 = 1 then (true, true, true, false)
    else (false, false, false, false)
  else
    match op.toNat / 64 with
    | 0 =>
      if z = 4 ∨ z = 5 then (true, true, true, false)
      else if z = 1 ∧ y % 2 = 1 then (false, true, true, true)
      else if z = 7 then
        if y < 4 then (true, true, true, true)
        else if y = 4 then (true, false, true, true)
        else if y = 5 then (false, true, true, false)
        else (false, true, true, true)
      else (false, false, false, false)
    | 1 => (false, false, false, false)
    | 2 => (true, true, true, true)
    | _ =>
      if z = 6 ∨ op = 0xE8#8 ∨ op = 0xF8#8 ∨ op = 0xF1#8 then (true, true, true, true)
      else (false, false, false, false)

/-- The addresses that an instruction stores to, from its bytes and the state it runs in: the address operands of files
40 to 45, the two stack slots of PUSH, CALL (where taken) and RST, and KEY1 for an armed STOP (R352). -/
def storeAddrs (s : State) (i : Instr) : List Word :=
  let op := (encode i).headD 0
  let b1 := (encode i).getD 1 0
  let b2 := (encode i).getD 2 0
  let hl := cat s.cpu.h s.cpu.l
  let slots := [s.cpu.sp - 1, s.cpu.sp - 2]
  let y := op.toNat / 8 % 8
  let z := op.toNat % 8
  if op = 0xCB#8 then (if b1.toNat % 8 = 6 ∧ b1.toNat / 64 ≠ 1 then [hl] else [])
  else
    match op.toNat / 64 with
    | 0 =>
      if op = 0x02#8 then [cat s.cpu.b s.cpu.c]
      else if op = 0x12#8 then [cat s.cpu.d s.cpu.e]
      else if op = 0x22#8 ∨ op = 0x32#8 ∨ op = 0x34#8 ∨ op = 0x35#8 ∨ op = 0x36#8 then [hl]
      else if op = 0x08#8 then [cat b2 b1, cat b2 b1 + 1]
      else if op = 0x10#8 ∧ s.params.colorMode = .cgb ∧ (s.mem 0xFF4D).getLsbD 0 = true then [0xFF4D#16]
      else []
    | 1 => if y = 6 ∧ z ≠ 6 then [hl] else []
    | 2 => []
    | _ =>
      if op = 0xE0#8 then [BitVec.ofNat 16 (0xFF00 + b1.toNat)]
      else if op = 0xE2#8 then [BitVec.ofNat 16 (0xFF00 + s.cpu.c.toNat)]
      else if op = 0xEA#8 then [cat b2 b1]
      else if op = 0xC5#8 ∨ op = 0xD5#8 ∨ op = 0xE5#8 ∨ op = 0xF5#8 ∨ op = 0xCD#8 ∨ z = 7 then slots
      else if op = 0xC4#8 then (if holds s .nz then slots else [])
      else if op = 0xCC#8 then (if holds s .z then slots else [])
      else if op = 0xD4#8 then (if holds s .nc then slots else [])
      else if op = 0xDC#8 then (if holds s .c then slots else [])
      else []

/-! ### Cycle costs (30_encoding.md R170, R172) -/

/-- `CYCLES[op]` of R170, one list per high nibble; the 0xCB cell, `-` there, is 0 here. -/
def cycleMap : List (List Nat) :=
  [[4, 12, 8, 8, 4, 4, 8, 4, 20, 8, 8, 8, 4, 4, 8, 4],
   [4, 12, 8, 8, 4, 4, 8, 4, 12, 8, 8, 8, 4, 4, 8, 4],
   [12, 12, 8, 8, 4, 4, 8, 4, 12, 8, 8, 8, 4, 4, 8, 4],
   [12, 12, 8, 8, 12, 12, 12, 4, 12, 8, 8, 8, 4, 4, 8, 4],
   [4, 4, 4, 4, 4, 4, 8, 4, 4, 4, 4, 4, 4, 4, 8, 4],
   [4, 4, 4, 4, 4, 4, 8, 4, 4, 4, 4, 4, 4, 4, 8, 4],
   [4, 4, 4, 4, 4, 4, 8, 4, 4, 4, 4, 4, 4, 4, 8, 4],
   [8, 8, 8, 8, 8, 8, 4, 8, 4, 4, 4, 4, 4, 4, 8, 4],
   [4, 4, 4, 4, 4, 4, 8, 4, 4, 4, 4, 4, 4, 4, 8, 4],
   [4, 4, 4, 4, 4, 4, 8, 4, 4, 4, 4, 4, 4, 4, 8, 4],
   [4, 4, 4, 4, 4, 4, 8, 4, 4, 4, 4, 4, 4, 4, 8, 4],
   [4, 4, 4, 4, 4, 4, 8, 4, 4, 4, 4, 4, 4, 4, 8, 4],
   [20, 12, 16, 16, 24, 16, 8, 16, 20, 16, 16, 0, 24, 24, 8, 16],
   [20, 12, 16, 4, 24, 16, 8, 16, 20, 16, 16, 4, 24, 4, 8, 16],
   [12, 12, 8, 4, 4, 16, 8, 16, 16, 4, 16, 4, 4, 4, 8, 16],
   [12, 12, 8, 4, 4, 16, 8, 16, 12, 8, 16, 4, 4, 4, 8, 16]]

/-- The condition of a conditional opcode (R165), none for the others. -/
def condOf (op : Byte) : Option Cond :=
  let y := op.toNat / 8 % 8
  let z := op.toNat % 8
  let cc : Nat → Cond := fun n => [Cond.nz, .z, .nc, .c].getD n .nz
  if op.toNat / 64 = 0 ∧ z = 0 ∧ 4 ≤ y then some (cc (y - 4))
  else if op.toNat / 64 = 3 ∧ (z = 0 ∨ z = 2 ∨ z = 4) ∧ y < 4 then some (cc y)
  else none

/-- `CYCLES_NT[op]` of R170: 8 for JR and RET, 12 for JP and CALL. -/
def notTaken (op : Byte) : Nat := if op.toNat / 64 = 0 ∨ op.toNat % 8 = 0 then 8 else 12

/-- What `step()` returns for an instruction run in `s` (R162, R170, R172). -/
def cost (s : State) (i : Instr) : Nat :=
  let op := (encode i).headD 0
  let cbop := (encode i).getD 1 0
  if op = 0xCB#8 then
    if cbop.toNat % 8 ≠ 6 then 8 else if cbop.toNat / 64 = 1 then 12 else 16
  else
    match condOf op with
    | some cc => if holds s cc then (cycleMap.getD (op.toNat / 16) []).getD (op.toNat % 16) 0 else notTaken op
    | none => (cycleMap.getD (op.toNat / 16) []).getD (op.toNat % 16) 0

/-! ### The frame driver (60_exceptions.md R471) -/

/-- The position after a transition, its budget, the LY it sets (if any) and its mode; none where `next_frame`
returns. -/
def nextLine (lcdOn : Bool) : Phase → Option (Phase × Int × Option Nat × Nat)
  | .between => if lcdOn then some (.oam 0, 80, some 0, 2) else some (.idle 0, 456, some 0, 0)
  | .idle k => if k < 153 then some (.idle (k + 1), 456, some 0, 0)
    else if lcdOn then some (.oam 0, 80, some 0, 2) else some (.idle 0, 456, some 0, 0)
  | .oam l => some (.transfer l, 172, none, 3)
  | .transfer l => some (.hblank l, 204, none, 0)
  | .hblank l => if l < 143 then some (.oam (l + 1), 80, some (l + 1), 2) else some (.vblank 144, 456, some 144, 1)
  | .vblank l => if l < 153 then some (.vblank (l + 1), 456, some (l + 1), 1) else none

/-! ### Reset (10_state.md R80) -/

/-- The I/O bytes of R80 for both modes. -/
def ioTable : List (Nat × Byte) :=
  [(0xFF00, 0xCF), (0xFF01, 0x00), (0xFF02, 0x7E), (0xFF05, 0x00), (0xFF06, 0x00), (0xFF07, 0xF8), (0xFF0F, 0xE1),
   (0xFFFF, 0x00), (0xFF40, 0x91), (0xFF41, 0x85), (0xFF42, 0x00), (0xFF43, 0x00), (0xFF44, 0x00), (0xFF45, 0x00),
   (0xFF46, 0xFF), (0xFF47, 0xFC), (0xFF48, 0xFF), (0xFF49, 0xFF), (0xFF4A, 0x00), (0xFF4B, 0x00)]

/-- The I/O bytes of R80 for CGB only: KEY1, VBK, SVBK, BCPS, OCPS. -/
def ioTableCgb : List (Nat × Byte) :=
  [(0xFF4D, 0x00), (0xFF4F, 0x00), (0xFF70, 0x00), (0xFF68, 0x00), (0xFF6A, 0x00)]

/-- What `load_rom` of an image leaves in `t` (R80 to R82, R504): every register, the ROM, and each byte that no rule
names per RAM_INIT. -/
def ResetState (p : Params) (image : RomImage) (draws : Ram) (t : State) : Prop :=
  let init := fun (m : Store 8) (a : Nat) => match p.ramInit with
    | .zero => 0#8
    | .draw => m.read a
  t.params = p ∧
  (p.colorMode = .dmg → t.cpu = {
    a := 0x01, f := 0xB0, b := 0x00, c := 0x13, d := 0x00, e := 0xD8, h := 0x01, l := 0x4D
    sp := 0xFFFE, pc := 0x0100, ime := false, halted := false, eiPending := false }) ∧
  (p.colorMode = .cgb → t.cpu = {
    a := 0x11, f := 0x80, b := 0x00, c := 0x00, d := 0xFF, e := 0x56, h := 0x00, l := 0x0D
    sp := 0xFFFE, pc := 0x0100, ime := false, halted := false, eiPending := false }) ∧
  (∀ c ∈ ioTable, t.mem c.1 = c.2) ∧ (p.colorMode = .cgb → ∀ c ∈ ioTableCgb, t.mem c.1 = c.2) ∧
  t.timer = { div := 0, divAcc := 0, timaAcc := 0 } ∧ t.controls = 0xFF ∧
  (p.colorMode = .cgb → (∀ i, i < 64 → t.ram.bgPal.read i = 0xFF) ∧
    (∀ i, i < 64 → t.ram.objPal.read i = init draws.objPal i) ∧
    (∀ i, i < 0x2000 → t.ram.vram1.read i = init draws.vram1 i) ∧
    (∀ i, 0x2000 ≤ i → i < 0x8000 → t.ram.wramx.read i = init draws.wramx i)) ∧
  (∀ a, 0x8000 ≤ a → a < 0x10000 → (∀ c ∈ ioTable, a ≠ c.1) →
    (p.colorMode = .cgb → ∀ c ∈ ioTableCgb, a ≠ c.1) → t.mem a = init draws.mem a) ∧
  t.cart.rom.size = image.size ∧ (∀ o, t.cart.rom.bytes.read o = image.bytes.read o) ∧
  t.cart.romBankLo = 1 ∧ t.cart.bankHi = 0 ∧ t.cart.bankMode = 0 ∧
  t.ppu.mode = 0 ∧ (∀ k, t.ppu.fb.read k = 0) ∧ t.driver.cycleBalance = 0 ∧ t.driver.phase = .between

end Sys2Proof.Forms

section

open Sys2Proof Sys2Proof.Machine Sys2Proof.Forms

/-- Ten byte sequences, one or more for each family, decode to the instruction that the opcode maps R168 and R171
name, and leave the bytes after it. (R160, R168, R171, R174.) -/
def Obligations.SampleWordsDecode : Prop :=
  decode [0x7A, 0xFF] = .ok (.ldAD, [0xFF]) ∧
  decode [0x31, 0xFF, 0xDF, 0x00] = .ok (.ldSPD16 0xDFFF, [0x00]) ∧
  decode [0xD6, 0x12, 0x34] = .ok (.subD8 0x12, [0x34]) ∧
  decode [0x39, 0x01] = .ok (.addHLSP, [0x01]) ∧
  decode [0x1F] = .ok (.rra, []) ∧
  decode [0xCB, 0x37, 0x01] = .ok (.swapA, [0x01]) ∧
  decode [0xCB, 0x66] = .ok (.bit4IndHL, []) ∧
  decode [0xDC, 0x00, 0x40] = .ok (.callCA16 0x4000, []) ∧
  decode [0x10, 0x00] = .ok (.stop 0x00, []) ∧
  decode [0xDD, 0x00] = .ok (.illegal 0xDD, [0x00])

/-- For every well-formed instruction i and every bytes after it, decode (encode i ++ rest) answers i and rest. (R160,
R168, R169, R171, R174.) -/
def Obligations.DecodeEncodeRoundTrip : Prop :=
  ∀ (i : Instr) (rest : List Byte), i.wellFormed = true → decode (encode i ++ rest) = .ok (i, rest)

/-- Three or more bytes always decode, so every first byte does; the length of what is taken is LEN of the first byte,
2 after 0xCB whatever the second byte is; whatever bytes decode, the instruction is well formed and its words and the
bytes left over are those bytes. (R174.) -/
def Obligations.DecodedInstructionEncodesBack : Prop :=
  (∀ (bs : List Byte), 3 ≤ bs.length → ∃ i rest, decode bs = .ok (i, rest)) ∧
  (∀ (bs : List Byte) (i : Instr) (rest : List Byte), decode bs = .ok (i, rest) →
    i.wellFormed = true ∧ encode i ++ rest = bs ∧ (encode i).length = instrLength (bs.headD 0)) ∧
  instrLength 0xCB = 2 ∧ instrLength 0x10 = 2

/-- fetchInstr advances PC modulo 65536 by LEN of the byte at PC, which is the length of the words of the instruction
it gives; the rest of the state is unchanged but for the count of DIV draws. The draws are the model's field divDraws
(log entry 4). (R177, R162, R11, R36.) -/
def Obligations.FetchAdvancesPcByLength : Prop :=
  ∀ (s : State),
    s.fetchInstr.2 = { s with
      cpu := { s.cpu with pc := s.cpu.pc + BitVec.ofNat 16 (instrLength (s.memRead s.cpu.pc)) }
      divDraws := s.fetchInstr.2.divDraws } ∧
    (encode s.fetchInstr.1).length = instrLength (s.memRead s.cpu.pc) ∧
    (s.params.divRead = .counter → s.fetchInstr.2.divDraws = s.divDraws)

/-- When the host calls of the boundary give s1, the budget lasts after a due driver transition, and the CPU is not
halted after the poll and the end of an EI delay (state b), a step is exec of the instruction that the three bytes at
PC decode to, run with PC past it, followed by endStep (the tick and the charge to cycle_balance). How next_frame is
cut into steps, and when host calls land, is the model's (log entries 7 and 8). (R162, R401, R470, R471.) -/
def Obligations.StepRunsDecodedInstruction : Prop :=
  ∀ (s s1 : State) (i : Instr) (rest : List Byte),
    hostTurn { s with stepCycles := 0 } = .next s1 →
    0 < s1.driverTurn.driver.cycleBalance →
    s1.driverTurn.beginStep.cpu.halted = false →
    (let b := s1.driverTurn.beginStep
     decode [b.memRead b.cpu.pc, b.memRead (b.cpu.pc + 1), b.memRead (b.cpu.pc + 2)] = .ok (i, rest)) →
    let b := s1.driverTurn.beginStep
    i.wellFormed = true ∧
    step s = onNext (exec i b.fetchInstr.2) State.endStep ∧
    b.fetchInstr.2 = { b with
      cpu := { b.cpu with pc := b.cpu.pc + BitVec.ofNat 16 (encode i).length }
      divDraws := b.fetchInstr.2.divDraws }

/-- State.reset satisfies State.Inv. The ROM and RAM of State.reset are the model's choice (log entries 2 and 3).
(R33, R40, R41, R42, R82.) -/
def Obligations.InvariantHoldsAtReset : Prop :=
  State.reset.Inv

/-- If s satisfies State.Inv (the low nibble of F is 0, every store is canonical and in range, rom_bank_lo is not 0,
the timer accumulators and the driver position are in range) and a step answers t, with whatever host calls landing,
then t satisfies State.Inv. A step is the model's cut of next_frame (log entry 8). (R33, R40, R41, R42, R430, R470,
R471.) -/
def Obligations.StepKeepsInvariant : Prop :=
  ∀ (s t : State), s.Inv → step s = .next t → t.Inv

/-- For every well-formed instruction (and PREFIX CB with any second byte) and every state, exec answers a next state
whose cycle count has grown by CYCLES, CYCLES_NT or CYCLES_CB of its opcode byte. The cycle count is kept in
stepCycles (log entry 9). (R170, R172.) -/
def Obligations.EveryInstructionCompletesAtItsCost : Prop :=
  ∀ (i : Instr) (s : State), (i.wellFormed = true ∨ ∃ cbop, i = .prefixCB cbop) →
    ∃ t, exec i s = .next t ∧ t.stepCycles = s.stepCycles + cost s i

/-- In every state whose next boundary has no host call scheduled, step answers a next state: no instruction,
interrupt or driver transition stops the machine. What a step is, and what refuses a host call, is the model's (log
entries 7 and 8). (R400, R525.) -/
def Obligations.StepGoesOnWithoutHostCalls : Prop :=
  ∀ (s : State), s.noHostCall → s.goesOn

/-- Whatever instruction runs in whatever state, the parameters, the ROM image, controls, the PPU block, the frame
driver, the TIMA accumulator, the host schedule, the .sav files, the name of the ROM file and the load report are what
they were. (R126, R43, R44, R482.) -/
def Obligations.ExecLeavesOtherBlocksUnchanged : Prop :=
  ∀ (i : Instr) (s t : State), exec i s = .next t →
    t.params = s.params ∧ t.cart.rom = s.cart.rom ∧ t.controls = s.controls ∧ t.ppu = s.ppu ∧ t.driver = s.driver ∧
    t.timer.timaAcc = s.timer.timaAcc ∧ t.hostSide.schedule = s.hostSide.schedule ∧
    t.hostSide.romPath = s.hostSide.romPath ∧ t.hostSide.savFiles = s.hostSide.savFiles ∧
    t.hostSide.loadReport = s.hostSide.loadReport

/-- For every instruction: a register outside destRegs keeps its value; SP keeps its value unless the opcode is one of
spOpcodes; IME and ei_pending keep theirs for every instruction but DI, EI, RETI and a stuck unassigned opcode; halted
keeps its value for every instruction but HALT. (R32, R35, R37, R38, R161, R163, R164.) -/
def Obligations.RegisterFrame : Prop :=
  ∀ (i : Instr) (s t : State), exec i s = .next t →
    (∀ r, r ∉ destRegs i → t.getReg r = s.getReg r) ∧
    (spOpcodes.contains ((encode i).headD 0) = false → t.cpu.sp = s.cpu.sp) ∧
    (i ≠ .di → i ≠ .ei → i ≠ .reti → (∀ op, i = .illegal op → s.params.illegalOpcode = .nop) →
      t.cpu.ime = s.cpu.ime ∧ t.cpu.eiPending = s.cpu.eiPending) ∧
    (i ≠ .halt → t.cpu.halted = s.cpu.halted)

/-- For every instruction, each of Z, N, H and C that flagsWritten does not name keeps its value, and an instruction
that writes no flag leaves F as it was. (R34.) -/
def Obligations.FlagFrame : Prop :=
  ∀ (i : Instr) (s t : State), exec i s = .next t →
    ((flagsWritten i).1 = false → oldZ t = oldZ s) ∧
    ((flagsWritten i).2.1 = false → oldN t = oldN s) ∧
    ((flagsWritten i).2.2.1 = false → oldH t = oldH s) ∧
    ((flagsWritten i).2.2.2 = false → oldC t = oldC s) ∧
    (flagsWritten i = (false, false, false, false) → t.cpu.f = s.cpu.f)

/-- For every instruction, let storeAddrs be the addresses it stores to. Every address b that no store to one of them
touches reads after as it read before; for an instruction that stores nothing that is every address. Only 0xFF04 with
DIV_READ = draw, where two reads differ anyway, is left out. (R104, R106, R107, R162.) -/
def Obligations.MemoryFrame : Prop :=
  ∀ (i : Instr) (s t : State), exec i s = .next t →
    ∀ b : Word, (∀ a ∈ storeAddrs s i, touched s.params a b = false) →
      (s.params.divRead = .counter ∨ b ≠ 0xFF04#16) → t.memRead b = s.memRead b

/-- MemRead of every address: ROM bank 0, the active bank, VRAM bank 1 and the WRAM banks of CGB, the joypad, DIV (the
counter, or with DIV_READ = draw the next free value), the CGB palette ports, and the stored byte everywhere else. The
free value is Config.divDraw (log entry 4). (R105.) -/
def Obligations.MemReadMap : Prop :=
  ∀ (s : State) (a : Word),
    let n := a.toNat
    let cgb := s.params.colorMode = .cgb
    let rom := fun o => if o < s.cart.rom.size then s.cart.rom.bytes.read o else 0xFF#8
    let banks := max 2 ((s.cart.rom.size + 0x3FFF) / 0x4000)
    let bank := (s.cart.bankHi.toNat * 32 + s.cart.romBankLo.toNat) % banks
    let m := fun k => s.ram.mem.read k
    let w := if (m 0xFF70).toNat % 8 = 0 then 1 else (m 0xFF70).toNat % 8
    let vram1 := cgb ∧ 0x8000 ≤ n ∧ n < 0xA000 ∧ (m 0xFF4F).getLsbD 0 = true
    let wramx := cgb ∧ 0xD000 ≤ n ∧ n < 0xE000 ∧ 2 ≤ w
    (n < 0x4000 → s.memRead a = rom n) ∧
    (0x4000 ≤ n → n < 0x8000 → s.memRead a = rom (bank * 0x4000 + (n - 0x4000))) ∧
    (vram1 → s.memRead a = s.ram.vram1.read (n - 0x8000)) ∧
    (wramx → s.memRead a = s.ram.wramx.read (w * 0x1000 + (n - 0xD000))) ∧
    (n = 0xFF00 → s.memRead a = s.joypadRead) ∧
    (n = 0xFF04 → s.params.divRead = .counter → s.memRead a = s.timer.div) ∧
    (n = 0xFF04 → s.params.divRead = .draw → s.memRead a = Config.divDraw s.divDraws) ∧
    (cgb → n = 0xFF69 → s.memRead a = s.ram.bgPal.read ((m 0xFF68).toNat % 64)) ∧
    (cgb → n = 0xFF6B → s.memRead a = s.ram.objPal.read ((m 0xFF6A).toNat % 64)) ∧
    (0x8000 ≤ n → ¬ vram1 → ¬ wramx → n ≠ 0xFF00 → n ≠ 0xFF04 → ¬ (cgb ∧ (n = 0xFF69 ∨ n = 0xFF6B)) →
      s.memRead a = m n)

/-- At every address from 0x8000 on that has no computed or masked read (all but P1, DIV, STAT, LY and in CGB KEY1 and
the palette data ports), a read after a write gives the byte written, in either color mode and with any bank selected.
(R105, R106, R64, R131.) -/
def Obligations.MemWriteReadsBack : Prop :=
  ∀ (s : State) (a : Word) (v : Byte), plain s.params a = true → (s.memWrite a v).memRead a = v

/-- For every address a, every byte b that touched does not name for a reads after the write of a as before: the byte
itself, 0x4000-0x7FFF for a bank register, OAM for the DMA trigger, the banked windows for VBK and SVBK, and the
paired palette ports. No write changes the CPU. (R106, R107, R122, R123, R130, R131, R132.) -/
def Obligations.MemWriteFrame : Prop :=
  ∀ (s : State) (a b : Word) (v : Byte), touched s.params a b = false →
    (s.params.divRead = .counter ∨ b ≠ 0xFF04#16) →
    (s.memWrite a v).memRead b = s.memRead b ∧ (s.memWrite a v).cpu = s.cpu

/-- Any write of DIV clears div and div_acc and nothing else; a write of LY changes nothing; a write of SC stores the
byte and hands SB to the host once, raising nothing, and a write of SB hands over nothing; a write of STAT keeps bits
2-0 and sets bit 7 (R59); in CGB a write of KEY1 keeps bit 7 (R67). A read of DIV gives div, or a free value with
DIV_READ = draw. The free value is Config.divDraw (log entry 4), and the bytes handed over are kept in serialOut (log
entry 11). (R53, R443.) -/
def Obligations.PortWrites : Prop :=
  ∀ (s : State) (v : Byte),
    s.memWrite 0xFF04 v = { s with timer := { s.timer with div := 0, divAcc := 0 } } ∧
    (s.params.divRead = .counter → s.memRead 0xFF04 = s.timer.div) ∧
    (s.params.divRead = .draw → s.memRead 0xFF04 = Config.divDraw s.divDraws) ∧
    s.memWrite 0xFF44 v = s ∧
    s.memWrite 0xFF02 v = { s with
      ram := { s.ram with mem := s.ram.mem.write 0xFF02 v }
      hostSide := { s.hostSide with serialOut := s.hostSide.serialOut ++ [s.ram.mem.read 0xFF01] } } ∧
    s.memWrite 0xFF01 v = { s with ram := { s.ram with mem := s.ram.mem.write 0xFF01 v } } ∧
    s.memWrite 0xFF41 v = { s with ram := { s.ram with
      mem := s.ram.mem.write 0xFF41 (0x80 ||| (v &&& 0x78) ||| (s.ram.mem.read 0xFF41 &&& 0x07)) } } ∧
    (s.params.colorMode = .cgb → s.memWrite 0xFF4D v = { s with ram := { s.ram with
      mem := s.ram.mem.write 0xFF4D ((s.ram.mem.read 0xFF4D &&& 0x80) ||| (v &&& 0x7F)) } })

/-- Window by window: no effect below 0x2000; rom_bank_lo from 5 bits with 0 remapped to 1; bank_hi from 2 bits;
bank_mode from 1 bit. After a write to the low-bits window, a read of 0x4000-0x7FFF gives the ROM byte of bank
(bank_hi * 32 + low) modulo the number of banks. (R121, R122, R123, R124.) -/
def Obligations.BankControllerWrites : Prop :=
  ∀ (s : State) (a : Word) (v : Byte),
    let low := if v.toNat % 32 = 0 then 1 else v.toNat % 32
    (a.toNat < 0x2000 → s.memWrite a v = s) ∧
    (0x2000 ≤ a.toNat → a.toNat < 0x4000 →
      s.memWrite a v = { s with cart := { s.cart with romBankLo := BitVec.ofNat 5 low } } ∧
      ∀ b : Word, 0x4000 ≤ b.toNat → b.toNat < 0x8000 → (s.memWrite a v).memRead b =
        s.romByte ((s.cart.bankHi.toNat * 32 + low) % max 2 ((s.cart.rom.size + 0x3FFF) / 0x4000) * 0x4000 +
          (b.toNat - 0x4000))) ∧
    (0x4000 ≤ a.toNat → a.toNat < 0x6000 →
      s.memWrite a v = { s with cart := { s.cart with bankHi := BitVec.ofNat 2 (v.toNat % 4) } }) ∧
    (0x6000 ≤ a.toNat → a.toNat < 0x8000 →
      s.memWrite a v = { s with cart := { s.cart with bankMode := BitVec.ofNat 1 (v.toNat % 2) } })

/-- A write of v to 0xFF46 stores v and leaves in OAM byte i what a read of (v << 8) + i gives before, for every page
v (0xFE, OAM itself, included); every other stored byte, the CPU, the timer and the cycle count are unchanged. (R130.)
-/
def Obligations.OamDmaCopiesPage : Prop :=
  ∀ (s : State) (v : Byte) (k : Nat),
    let t := s.memWrite 0xFF46 v
    let u := { s with ram := { s.ram with mem := s.ram.mem.write 0xFF46 v } }
    (∀ i, i < 160 → t.ram.mem.read (0xFE00 + i) = u.memRead (BitVec.ofNat 16 (v.toNat * 256 + i))) ∧
    (k < 0xFE00 ∨ 0xFEA0 ≤ k → t.ram.mem.read k = if k = 0xFF46 then v else s.ram.mem.read k) ∧
    t = { s with ram := { s.ram with mem := t.ram.mem }, divDraws := t.divDraws }

/-- In CGB mode, a write of BCPD (OCPD) stores the byte at the index of BCPS (OCPS) bits 5-0; with bit 7 set the index
becomes (i + 1) mod 64, bits 7 and 6 kept; with bit 7 clear the index register is unchanged. A read of the port
changes no index. (R132.) -/
def Obligations.PaletteDataWrites : Prop :=
  ∀ (s : State) (v : Byte), s.params.colorMode = .cgb →
    let next := fun x : Byte => if 128 ≤ x.toNat then x.toNat / 64 * 64 + (x.toNat + 1) % 64 else x.toNat
    (let x := s.ram.mem.read 0xFF68
     let t := s.memWrite 0xFF69 v
     (∀ j, t.ram.bgPal.read j = if j = x.toNat % 64 then v else s.ram.bgPal.read j) ∧
     (∀ k, t.ram.mem.read k = if k = 0xFF68 then byte (next x) else s.ram.mem.read k) ∧
     (s.noteRead 0xFF69).ram = s.ram) ∧
    (let x := s.ram.mem.read 0xFF6A
     let t := s.memWrite 0xFF6B v
     (∀ j, t.ram.objPal.read j = if j = x.toNat % 64 then v else s.ram.objPal.read j) ∧
     (∀ k, t.ram.mem.read k = if k = 0xFF6A then byte (next x) else s.ram.mem.read k) ∧
     (s.noteRead 0xFF6B).ram = s.ram)

/-- Bits 7-6 of a read of 0xFF00 are 1, bits 5-4 are the stored ones, and bit i of the low nibble is 0 exactly where a
selected line has its button down: button i for the directions (bit 4 clear), button i + 4 for the buttons (bit 5
clear). After release_all the low nibble is 0x0F. (R441.) -/
def Obligations.JoypadReadBits : Prop :=
  ∀ (s : State),
    let p := s.ram.mem.read 0xFF00
    let v := s.memRead 0xFF00
    v.getLsbD 7 = true ∧ v.getLsbD 6 = true ∧ v.getLsbD 5 = p.getLsbD 5 ∧ v.getLsbD 4 = p.getLsbD 4 ∧
    (∀ i, i < 4 → v.getLsbD i =
      ((p.getLsbD 4 || s.controls.getLsbD i) && (p.getLsbD 5 || s.controls.getLsbD (i + 4)))) ∧
    (p.getLsbD 4 = true → p.getLsbD 5 = true → v.toNat % 16 = 15) ∧
    (s.releaseAll.memRead 0xFF00).toNat % 16 = 15

/-- A write of an 8-bit register changes that register alone; a pair reads as cat of its two registers and its write
splits the value, F masked in AF; a flag update and a write of F leave bits 3-0 of F 0 and put Z, N, H, C in bits 7 to
4. (R31, R33.) -/
def Obligations.RegisterPairsAlias : Prop :=
  (∀ (s : State) (r q : Reg8) (v : Byte), (s.setReg r v).getReg q = if q = r then v else s.getReg q) ∧
  (∀ (s : State), s.getPair .bc = cat s.cpu.b s.cpu.c ∧ s.getPair .de = cat s.cpu.d s.cpu.e ∧
    s.getPair .hl = cat s.cpu.h s.cpu.l ∧ s.getPair .af = cat s.cpu.a s.cpu.f ∧ s.getPair .sp = s.cpu.sp) ∧
  (∀ (s : State) (v : Word),
    ((s.setPair .bc v).cpu = { s.cpu with b := hiByte v, c := loByte v } ∧
    (s.setPair .de v).cpu = { s.cpu with d := hiByte v, e := loByte v } ∧
    (s.setPair .hl v).cpu = { s.cpu with h := hiByte v, l := loByte v } ∧
    (s.setPair .af v).cpu = { s.cpu with a := hiByte v, f := loByte v &&& 0xF0 } ∧
    (s.setPair .sp v).cpu = { s.cpu with sp := v }) ∧
    (hiByte v).toNat = v.toNat / 256 ∧ (loByte v).toNat = v.toNat % 256) ∧
  (∀ (h l : Byte), (cat h l).toNat = h.toNat * 256 + l.toNat) ∧
  (∀ (s : State) (v : Byte), (s.setF v).cpu.f = v &&& 0xF0) ∧
  (∀ (s : State) (z n h c : Bool), let t := s.setFlags z n h c
    t.cpu.f &&& 0x0F = 0 ∧ oldZ t = z ∧ oldN t = n ∧ oldH t = h ∧ oldC t = c ∧
    t = { s with cpu := { s.cpu with f := t.cpu.f } })

/-- LD r,r' (49 forms), LD r,d8, LD rp,d16 and LD SP,HL: their words, the one register or pair written, no flag, 4, 8,
12 and 8 cycles; everything else is unchanged. (R200, R201, R230, R232.) -/
def Obligations.RegisterLoadResults : Prop :=
  (∀ (r q : Reg8) (s : State), encode (ldRegInstr r q) = [byte (0x40 + 8 * regField r + regField q)] ∧
    exec (ldRegInstr r q) s = .next (after s (s.setReg r (s.getReg q)).cpu 4)) ∧
  (∀ (r : Reg8) (d8 : Byte) (s : State), encode (ldImmInstr d8 r) = [byte (0x06 + 8 * regField r), d8] ∧
    exec (ldImmInstr d8 r) s = .next (after s (s.setReg r d8).cpu 8)) ∧
  (∀ x ∈ ldPairForms, ∀ (d16 : Word) (s : State), encode (x.2.2 d16) = [x.2.1, loByte d16, hiByte d16] ∧
    exec (x.2.2 d16) s = .next (after s (s.setPair x.1 d16).cpu 12)) ∧
  (∀ s : State, encode .ldSPHL = [0xF9] ∧
    exec .ldSPHL s = .next (after s { s.cpu with sp := cat s.cpu.h s.cpu.l } 8))

/-- LD r,(HL), LD A,(BC), LD A,(DE), LD A,(a16), LDH A,(a8), LD A,(C) write the byte read to the destination; LD
A,(HL+) and LD A,(HL-) also move HL by one modulo 65536. Words, cycles and an otherwise unchanged state (a read of
0xFF04 with DIV_READ = draw uses up a draw). Draws are counted in divDraws (log entry 4). (R202, R205, R206, R209,
R211, R213, R216, R218.) -/
def Obligations.MemoryLoadResults : Prop :=
  (∀ (x : LoadForm) (s : State), encode x.instr = x.bytes ∧
    exec x.instr s = .next (after (s.noteRead (x.addr s)) (s.setReg x.dest (s.memRead (x.addr s))).cpu x.cycles)) ∧
  (∀ s : State, let hl := cat s.cpu.h s.cpu.l
    encode .ldAIndHLInc = [0x2A] ∧
    exec .ldAIndHLInc s = .next (after (s.noteRead hl)
      { s.cpu with a := s.memRead hl, h := hiByte (hl + 1), l := loByte (hl + 1) } 8) ∧
    encode .ldAIndHLDec = [0x3A] ∧
    exec .ldAIndHLDec s = .next (after (s.noteRead hl)
      { s.cpu with a := s.memRead hl, h := hiByte (hl - 1), l := loByte (hl - 1) } 8))

/-- LD (HL),r, LD (HL),d8, LD (BC),A, LD (DE),A, LD (a16),A, LDH (a8),A, LD (C),A do one MemWrite and change no
register; LD (HL+),A and LD (HL-),A also move HL by one modulo 65536. Words and cycles. (R203, R204, R207, R208, R210,
R212, R214, R215, R217.) -/
def Obligations.MemoryStoreResults : Prop :=
  (∀ (x : StoreForm) (s : State), encode x.instr = x.bytes ∧
    exec x.instr s = .next (after (s.memWrite (x.addr s) (x.value s)) s.cpu x.cycles)) ∧
  (∀ s : State, let hl := cat s.cpu.h s.cpu.l
    encode .ldIndHLIncA = [0x22] ∧
    exec .ldIndHLIncA s = .next (after (s.memWrite hl s.cpu.a)
      { s.cpu with h := hiByte (hl + 1), l := loByte (hl + 1) } 8) ∧
    encode .ldIndHLDecA = [0x32] ∧
    exec .ldIndHLDecA s = .next (after (s.memWrite hl s.cpu.a)
      { s.cpu with h := hiByte (hl - 1), l := loByte (hl - 1) } 8))

/-- PUSH writes the high byte at SP - 1, then the low byte at SP - 2, and lowers SP by 2; POP reads the low byte at SP
and the high byte at SP + 1 into the pair, F masked in AF, and raises SP by 2; LD (a16),SP writes the low byte at a16,
then the high byte at a16 + 1. Words, cycles, all arithmetic modulo 65536. (R231, R233, R234, R235.) -/
def Obligations.StackTransferResults : Prop :=
  (∀ x ∈ pushForms, ∀ s : State, encode x.2.2 = [x.2.1] ∧
    exec x.2.2 s = .next (after ((s.memWrite (s.cpu.sp - 1) (hiByte (s.getPair x.1))).memWrite (s.cpu.sp - 2)
      (loByte (s.getPair x.1))) { s.cpu with sp := s.cpu.sp - 2 } 16)) ∧
  (∀ x ∈ popForms, ∀ s : State, let v := cat (s.memRead (s.cpu.sp + 1)) (s.memRead s.cpu.sp)
    encode x.2.2 = [x.2.1] ∧
    exec x.2.2 s = .next (after ((s.noteRead s.cpu.sp).noteRead (s.cpu.sp + 1))
      { (s.setPair x.1 v).cpu with sp := s.cpu.sp + 2 } 12)) ∧
  (∀ (a16 : Word) (s : State), encode (.ldIndA16SP a16) = [0x08, loByte a16, hiByte a16] ∧
    exec (.ldIndA16SP a16) s = .next (after ((s.memWrite a16 (loByte s.cpu.sp)).memWrite (a16 + 1) (hiByte s.cpu.sp))
      s.cpu 20))

/-- The result is SP plus the signed displacement modulo 65536; Z and N are 0, H and C the carries of the unsigned
byte addition. HL or SP is written, nothing else; 12 and 16 cycles. (R236, R237, R293.) -/
def Obligations.SpPlusDisplacementResults : Prop :=
  ∀ (e : Byte) (s : State),
    let sp := s.cpu.sp.toNat
    let res := BitVec.ofInt 16 ((sp : Int) + (if e.toNat < 128 then (e.toNat : Int) else (e.toNat : Int) - 256))
    let f := packFlags false false (decide (sp % 16 + e.toNat % 16 > 15)) (decide (sp % 256 + e.toNat > 255))
    encode (.ldHLSPDisp e) = [0xF8, e] ∧ encode (.addSPDisp e) = [0xE8, e] ∧
    spPlusE s.cpu.sp e = (res, decide (sp % 16 + e.toNat % 16 > 15), decide (sp % 256 + e.toNat > 255)) ∧
    exec (.ldHLSPDisp e) s = .next (after s { s.cpu with h := hiByte res, l := loByte res, f := f } 12) ∧
    exec (.addSPDisp e) s = .next (after s { s.cpu with sp := res, f := f } 16)

/-- For a register, the byte at HL and an immediate: A becomes the sum of A, the operand and (ADC) the old carry
modulo 256, with Z N H C of R241; nothing else changes. Words and cycles of every form. (R250, R251, R252, R253, R254,
R255.) -/
def Obligations.AddResults : Prop :=
  ∀ (src : AluSrc) (s : State),
    let a := s.cpu.a.toNat
    let v := (src.value s).toNat
    let c := if oldC s then 1 else 0
    encode (aluInstr .add src) = aluBytes .add src ∧
    exec (aluInstr .add src) s = .next (after (src.readState s) { s.cpu with
      a := byte (a + v)
      f := packFlags (decide ((a + v) % 256 = 0)) false (decide (a % 16 + v % 16 > 15)) (decide (a + v > 255)) }
      src.cycles) ∧
    encode (aluInstr .adc src) = aluBytes .adc src ∧
    exec (aluInstr .adc src) s = .next (after (src.readState s) { s.cpu with
      a := byte (a + v + c)
      f := packFlags (decide ((a + v + c) % 256 = 0)) false (decide (a % 16 + v % 16 + c > 15))
        (decide (a + v + c > 255)) } src.cycles)

/-- For a register, the byte at HL and an immediate: A becomes A minus the operand minus (SBC) the old carry modulo
256, N is 1, H and C are the borrows of R242; nothing else changes. Words and cycles of every form. (R256, R257, R258,
R259, R260, R261.) -/
def Obligations.SubtractResults : Prop :=
  ∀ (src : AluSrc) (s : State),
    let a := s.cpu.a.toNat
    let v := (src.value s).toNat
    let c := if oldC s then 1 else 0
    encode (aluInstr .sub src) = aluBytes .sub src ∧
    exec (aluInstr .sub src) s = .next (after (src.readState s) { s.cpu with
      a := byte (a + 256 - v)
      f := packFlags (decide (a = v)) true (decide (a % 16 < v % 16)) (decide (a < v)) } src.cycles) ∧
    encode (aluInstr .sbc src) = aluBytes .sbc src ∧
    exec (aluInstr .sbc src) s = .next (after (src.readState s) { s.cpu with
      a := byte (a + 512 - v - c)
      f := packFlags (decide ((a + 512 - v - c) % 256 = 0)) true (decide (a % 16 < v % 16 + c))
        (decide (a < v + c)) } src.cycles)

/-- For a register, the byte at HL and an immediate: A becomes the bitwise result, Z tells whether it is 0, N and C
are 0, H is 1 for AND and 0 for XOR and OR; nothing else changes. Words and cycles of every form. (R262, R263, R264,
R265, R266, R267, R268, R269, R270, R243.) -/
def Obligations.LogicResults : Prop :=
  ∀ (src : AluSrc) (s : State),
    let run := fun (op : AluOp) (res : Byte) (h : Bool) =>
      encode (aluInstr op src) = aluBytes op src ∧
      exec (aluInstr op src) s = .next (after (src.readState s) { s.cpu with
        a := res, f := packFlags (decide (res.toNat = 0)) false h false } src.cycles)
    run .and (s.cpu.a &&& src.value s) true ∧
    run .xor (s.cpu.a ^^^ src.value s) false ∧
    run .or (s.cpu.a ||| src.value s) false

/-- For a register, the byte at HL and an immediate: F takes the flags of SUB, A and every other register keep their
values. Words and cycles of every form. (R271, R272, R273.) -/
def Obligations.CompareResults : Prop :=
  ∀ (src : AluSrc) (s : State),
    let a := s.cpu.a.toNat
    let v := (src.value s).toNat
    encode (aluInstr .cp src) = aluBytes .cp src ∧
    exec (aluInstr .cp src) s = .next (after (src.readState s) { s.cpu with
      f := packFlags (decide (a = v)) true (decide (a % 16 < v % 16)) (decide (a < v)) } src.cycles)

/-- CP leaves the F that SUB leaves and A as it was; ADC and SBC with carry 0 are ADD and SUB; for all bytes and
carries the borrow of Sub8 is set exactly when adding the operand back to the result overflows, and Add8 undoes Sub8.
(R244, R241, R242.) -/
def Obligations.AluGroupLaws : Prop :=
  (∀ (src : AluSrc) (s t u : State), exec (aluInstr .cp src) s = .next t → exec (aluInstr .sub src) s = .next u →
    t.cpu.f = u.cpu.f ∧ t.cpu.a = s.cpu.a) ∧
  (∀ (src : AluSrc) (s : State), oldC s = false →
    exec (aluInstr .adc src) s = exec (aluInstr .add src) s ∧ exec (aluInstr .sbc src) s = exec (aluInstr .sub src) s) ∧
  (∀ (a b : Byte) (cin : Bool), (sub8 a b cin).c = (add8 (sub8 a b cin).res b cin).c ∧
    (add8 (sub8 a b cin).res b cin).res = a)

/-- The byte plus or minus one modulo 256 is written back, Z, N and H follow the rule, C is kept. The (HL) forms read
before they write, compute the flags from the byte read, and change no register; 4 and 12 cycles. Words of every form.
(R274, R275, R276, R277.) -/
def Obligations.IncrementDecrementResults : Prop :=
  ∀ (s : State),
    let inc := fun v : Nat => packFlags (decide (v = 255)) false (decide (v % 16 = 15)) (oldC s)
    let dec := fun v : Nat => packFlags (decide (v = 1)) true (decide (v % 16 = 0)) (oldC s)
    let hl := cat s.cpu.h s.cpu.l
    (∀ r : Reg8, encode (incRegInstr r) = [byte (0x04 + 8 * regField r)] ∧
      exec (incRegInstr r) s = .next (after s { (s.setReg r (byte ((s.getReg r).toNat + 1))).cpu with
        f := inc (s.getReg r).toNat } 4) ∧
      encode (decRegInstr r) = [byte (0x05 + 8 * regField r)] ∧
      exec (decRegInstr r) s = .next (after s { (s.setReg r (byte ((s.getReg r).toNat + 255))).cpu with
        f := dec (s.getReg r).toNat } 4)) ∧
    encode .incIndHL = [0x34] ∧
    exec .incIndHL s = .next (after ((s.noteRead hl).memWrite hl (byte ((s.memRead hl).toNat + 1)))
      { s.cpu with f := inc (s.memRead hl).toNat } 12) ∧
    encode .decIndHL = [0x35] ∧
    exec .decIndHL s = .next (after ((s.noteRead hl).memWrite hl (byte ((s.memRead hl).toNat + 255)))
      { s.cpu with f := dec (s.memRead hl).toNat } 12)

/-- DAA adjusts A by the flags N, H, C and its own nibbles, Z from the result, H cleared, N kept; CPL complements A
and sets N and H; SCF and CCF clear N and H and set or complement C. Nothing else changes; 4 cycles; words. (R278,
R279, R280, R281.) -/
def Obligations.AccumulatorFlagResults : Prop :=
  ∀ (s : State),
    let a := s.cpu.a.toNat
    let up := oldC s || decide (a > 0x99)
    let a1 := if up then (a + 0x60) % 256 else a
    let a2 := if oldH s || decide (a1 % 16 > 9) then (a1 + 6) % 256 else a1
    let b1 := if oldC s then (a + 256 - 0x60) % 256 else a
    let b2 := if oldH s then (b1 + 256 - 6) % 256 else b1
    let res := if oldN s then b2 else a2
    encode .daa = [0x27] ∧
    exec .daa s = .next (after s { s.cpu with
      a := byte res
      f := packFlags (decide (res = 0)) (oldN s) false (if oldN s then oldC s else up) } 4) ∧
    encode .cpl = [0x2F] ∧
    exec .cpl s = .next (after s { s.cpu with
      a := byte (255 - a), f := packFlags (oldZ s) true true (oldC s) } 4) ∧
    encode .scf = [0x37] ∧
    exec .scf s = .next (after s { s.cpu with f := packFlags (oldZ s) false false true } 4) ∧
    encode .ccf = [0x3F] ∧
    exec .ccf s = .next (after s { s.cpu with f := packFlags (oldZ s) false false (!oldC s) } 4)

/-- For numbers x and y below 100 written as two decimal digits: ADD then DAA leaves (x + y) mod 100 in decimal with C
exactly when x + y reaches 100; SUB then DAA leaves (x - y) mod 100 with C exactly when x is below y. (R278, R250,
R256.) -/
def Obligations.DaaMakesDecimalSums : Prop :=
  ∀ (x y : Nat) (s t u : State), x < 100 → y < 100 →
    let bcd := fun n : Nat => byte (n / 10 * 16 + n % 10)
    s.cpu.a = bcd x →
    (exec (.addAD8 (bcd y)) s = .next t → exec .daa t = .next u →
      u.cpu.a = bcd ((x + y) % 100) ∧ oldC u = decide (100 ≤ x + y)) ∧
    (exec (.subD8 (bcd y)) s = .next t → exec .daa t = .next u →
      u.cpu.a = bcd ((x + 100 - y) % 100) ∧ oldC u = decide (x < y))

/-- ADD HL,rp adds the pair (HL doubled for HL) modulo 65536, N cleared, H and C the carries out of bits 11 and 15, Z
kept; INC and DEC rp change the pair by one modulo 65536 and no flag. Nothing else changes; 8 cycles; words. (R290,
R291, R292.) -/
def Obligations.PairArithmeticResults : Prop :=
  (∀ x ∈ addHLForms, ∀ s : State,
    let a := (cat s.cpu.h s.cpu.l).toNat
    let b := (s.getPair x.1).toNat
    let res := BitVec.ofNat 16 (a + b)
    encode x.2.2 = [x.2.1] ∧
    exec x.2.2 s = .next (after s { s.cpu with
      h := hiByte res, l := loByte res
      f := packFlags (oldZ s) false (decide (a % 4096 + b % 4096 > 4095)) (decide (a + b > 65535)) } 8)) ∧
  (∀ x ∈ incPairForms, ∀ s : State, encode x.2.2 = [x.2.1] ∧
    exec x.2.2 s = .next (after s (s.setPair x.1 (BitVec.ofNat 16 ((s.getPair x.1).toNat + 1))).cpu 8)) ∧
  (∀ x ∈ decPairForms, ∀ s : State, encode x.2.2 = [x.2.1] ∧
    exec x.2.2 s = .next (after s (s.setPair x.1 (BitVec.ofNat 16 ((s.getPair x.1).toNat + 65535))).cpu 8))

/-- RLCA, RRCA, RLA and RRA rotate A, clear Z, N and H and set C to the bit shifted out, in 4 cycles; the eight CB
operations on each register write the result of rotValue, Z from the result, N and H 0, C from rotCarry, in 8 cycles.
Nothing else changes. Words of every form. (R300, R301, R302, R303, R304, R306, R308, R310, R312, R314, R316, R318.)
-/
def Obligations.RotateRegisterResults : Prop :=
  (∀ x ∈ rotAForms, ∀ s : State, encode x.2.2 = [x.2.1] ∧
    exec x.2.2 s = .next (after s { s.cpu with
      a := byte (rotValue x.1 s.cpu.a.toNat (if oldC s then 1 else 0))
      f := packFlags false false false (rotCarry x.1 s.cpu.a.toNat) } 4)) ∧
  (∀ (op : RotOp) (r : Reg8) (s : State),
    let v := (s.getReg r).toNat
    let res := rotValue op v (if oldC s then 1 else 0)
    encode (rotRegInstr op r) = [0xCB, byte (8 * rotField op + regField r)] ∧
    exec (rotRegInstr op r) s = .next (after s { (s.setReg r (byte res)).cpu with
      f := packFlags (decide (res = 0)) false false (rotCarry op v) } 8))

/-- The byte at HL is read once, the result of rotValue is written once, Z comes from the result, N and H are 0, C is
rotCarry of the byte read; no register changes; 16 cycles. Words of every form. (R305, R307, R309, R311, R313, R315,
R317, R319.) -/
def Obligations.RotateMemoryResults : Prop :=
  ∀ (op : RotOp) (s : State),
    let hl := cat s.cpu.h s.cpu.l
    let v := (atHL s).toNat
    let res := rotValue op v (if oldC s then 1 else 0)
    encode (rotHLInstr op) = [0xCB, byte (8 * rotField op + 6)] ∧
    exec (rotHLInstr op) s = .next (after ((s.noteRead hl).memWrite hl (byte res)) { s.cpu with
      f := packFlags (decide (res = 0)) false false (rotCarry op v) } 16)

/-- BIT sets Z to the complement of the bit, N 0, H 1, C kept, and writes nothing else; RES and SET write the byte
with the bit 0 or 1 and no flag, the (HL) forms always writing back. 8 cycles, BIT (HL) 12, RES and SET (HL) 16. Words
of every form. (R320, R321, R322, R323, R324, R325.) -/
def Obligations.BitResults : Prop :=
  ∀ (b : Fin 8) (s : State),
    let hl := cat s.cpu.h s.cpu.l
    let test := fun v : Byte => packFlags (decide (v.toNat / 2 ^ b.val % 2 = 0)) false true (oldC s)
    (∀ r : Reg8,
      encode (bitRegInstr b r) = [0xCB, byte (0x40 + 8 * b.val + regField r)] ∧
      exec (bitRegInstr b r) s = .next (after s { s.cpu with f := test (s.getReg r) } 8) ∧
      encode (resRegInstr b r) = [0xCB, byte (0x80 + 8 * b.val + regField r)] ∧
      exec (resRegInstr b r) s = .next (after s (s.setReg r (byte (without (s.getReg r).toNat b.val))).cpu 8) ∧
      encode (setRegInstr b r) = [0xCB, byte (0xC0 + 8 * b.val + regField r)] ∧
      exec (setRegInstr b r) s = .next (after s (s.setReg r (byte (withBit (s.getReg r).toNat b.val))).cpu 8)) ∧
    encode (bitHLInstr b) = [0xCB, byte (0x46 + 8 * b.val)] ∧
    exec (bitHLInstr b) s = .next (after (s.noteRead hl) { s.cpu with f := test (atHL s) } 12) ∧
    encode (resHLInstr b) = [0xCB, byte (0x86 + 8 * b.val)] ∧
    exec (resHLInstr b) s = .next (after ((s.noteRead hl).memWrite hl (byte (without (atHL s).toNat b.val))) s.cpu 16) ∧
    encode (setHLInstr b) = [0xCB, byte (0xC6 + 8 * b.val)] ∧
    exec (setHLInstr b) s = .next (after ((s.noteRead hl).memWrite hl (byte (withBit (atHL s).toNat b.val))) s.cpu 16)

/-- A taken jump sets PC to the operand, to HL, or to PC plus the signed displacement modulo 65536; a failed condition
leaves PC, already past the instruction. Nothing but PC changes; cycles taken and not taken; words. (R326, R330, R331,
R332, R333, R334.) -/
def Obligations.JumpResults : Prop :=
  ∀ (s : State) (a16 : Word) (e : Byte),
    let rel := BitVec.ofInt 16 ((s.cpu.pc.toNat : Int) +
      (if e.toNat < 128 then (e.toNat : Int) else (e.toNat : Int) - 256))
    (∀ cc : Cond, holds s cc = match cc with
      | .nz => decide (oldZ s = false) | .z => oldZ s | .nc => decide (oldC s = false) | .c => oldC s) ∧
    encode (.jpA16 a16) = [0xC3, loByte a16, hiByte a16] ∧
    exec (.jpA16 a16) s = .next (after s { s.cpu with pc := a16 } 16) ∧
    (∀ cc : Cond, encode (jpCondInstr a16 cc) = [byte (0xC2 + 8 * condField cc), loByte a16, hiByte a16] ∧
      exec (jpCondInstr a16 cc) s = .next
        (if holds s cc then after s { s.cpu with pc := a16 } 16 else after s s.cpu 12)) ∧
    encode .jpHL = [0xE9] ∧
    exec .jpHL s = .next (after s { s.cpu with pc := cat s.cpu.h s.cpu.l } 4) ∧
    encode (.jrDisp e) = [0x18, e] ∧
    exec (.jrDisp e) s = .next (after s { s.cpu with pc := rel } 12) ∧
    (∀ cc : Cond, encode (jrCondInstr e cc) = [byte (0x20 + 8 * condField cc), e] ∧
      exec (jrCondInstr e cc) s = .next
        (if holds s cc then after s { s.cpu with pc := rel } 12 else after s s.cpu 8))

/-- A taken call writes the high byte of PC at SP - 1, then the low byte at SP - 2, lowers SP by 2 and sets PC to the
operand, or to 8 t for RST t; a failed condition changes nothing but the cycles. Words; 24, 12 and 16 cycles. (R335,
R336, R340.) -/
def Obligations.CallResults : Prop :=
  ∀ (s : State) (a16 : Word),
    let call := fun (target : Word) (n : Nat) =>
      after ((s.memWrite (s.cpu.sp - 1) (hiByte s.cpu.pc)).memWrite (s.cpu.sp - 2) (loByte s.cpu.pc))
        { s.cpu with sp := s.cpu.sp - 2, pc := target } n
    encode (.callA16 a16) = [0xCD, loByte a16, hiByte a16] ∧
    exec (.callA16 a16) s = .next (call a16 24) ∧
    (∀ cc : Cond, encode (callCondInstr a16 cc) = [byte (0xC4 + 8 * condField cc), loByte a16, hiByte a16] ∧
      exec (callCondInstr a16 cc) s = .next (if holds s cc then call a16 24 else after s s.cpu 12)) ∧
    (∀ t : Fin 8, encode (rstInstr t) = [byte (0xC7 + 8 * t.val)] ∧
      exec (rstInstr t) s = .next (call (BitVec.ofNat 16 (t.val * 8)) 16))

/-- A taken return reads the low byte of PC at SP and the high byte at SP + 1 and raises SP by 2; a failed condition
reads nothing and changes nothing but the cycles; RETI also sets IME and ends a pending EI. Words; 16, 20 or 8, and 16
cycles. (R337, R338, R339.) -/
def Obligations.ReturnResults : Prop :=
  ∀ (s : State),
    let popped := cat (s.memRead (s.cpu.sp + 1)) (s.memRead s.cpu.sp)
    let read := (s.noteRead s.cpu.sp).noteRead (s.cpu.sp + 1)
    let back := { s.cpu with sp := s.cpu.sp + 2, pc := popped }
    encode .ret = [0xC9] ∧ exec .ret s = .next (after read back 16) ∧
    (∀ cc : Cond, encode (retCondInstr cc) = [byte (0xC0 + 8 * condField cc)] ∧
      exec (retCondInstr cc) s = .next (if holds s cc then after read back 20 else after s s.cpu 8)) ∧
    encode .reti = [0xD9] ∧
    exec .reti s = .next (after read { back with ime := true, eiPending := false } 16)

/-- NOP changes nothing; HALT sets halted, and while it stays set a step of the CPU fetches nothing, keeps PC and
costs 4; STOP in CGB with KEY1 bit 0 set flips the speed bit and clears the request, else nothing; DI clears IME and
ei_pending at once; EI sets ei_pending, or IME with EI_DELAY = 0. A poll that finds an enabled request clears halted
whatever IME is. 4 cycles each. (R350, R351, R352, R353, R354.) -/
def Obligations.SystemResults : Prop :=
  ∀ (s : State) (d8 : Byte),
    encode .nop = [0x00] ∧ exec .nop s = .next (after s s.cpu 4) ∧
    encode .halt = [0x76] ∧ exec .halt s = .next (after s { s.cpu with halted := true } 4) ∧
    (s.cpu.halted = true → cpuStep s = .next (after s s.cpu 4)) ∧
    ((s.mem 0xFFFF &&& s.mem 0xFF0F &&& 0x1F) ≠ 0 → s.pollAndService.cpu.halted = false ∧
      (s.cpu.ime = false → s.pollAndService.cpu.pc = s.cpu.pc)) ∧
    encode (.stop d8) = [0x10, d8] ∧
    exec (.stop d8) s = .next (after
      (if s.params.colorMode = .cgb ∧ (s.mem 0xFF4D).getLsbD 0 = true then
        { s with ram := { s.ram with mem := s.ram.mem.write 0xFF4D ((s.ram.mem.read 0xFF4D ^^^ 0x80) &&& 0xFE) } }
      else s) s.cpu 4) ∧
    encode .di = [0xF3] ∧ exec .di s = .next (after s { s.cpu with ime := false, eiPending := false } 4) ∧
    encode .ei = [0xFB] ∧
    exec .ei s = .next (after s (if s.params.eiDelay then { s.cpu with eiPending := true }
      else { s.cpu with ime := true }) 4)

/-- Each unassigned opcode is one byte and takes 4 cycles: with ILLEGAL_OPCODE = nop nothing else changes, with stuck
PC goes back onto it and IME and ei_pending are cleared. No other first byte decodes to it. 0xCB and a byte decode to
that CB instruction, and PREFIX CB runs it. The constructor prefixCB is the model's (log entry 14). (R173, R355,
R356.) -/
def Obligations.UnassignedAndPrefixResults : Prop :=
  (∀ (op b1 b2 : Byte) (s : State),
    ((∃ p, decodeBytes op b1 b2 = .illegal p) ↔
      op ∈ [0xD3#8, 0xDB#8, 0xDD#8, 0xE3#8, 0xE4#8, 0xEB#8, 0xEC#8, 0xED#8, 0xF4#8, 0xFC#8, 0xFD#8]) ∧
    (op ∈ [0xD3#8, 0xDB#8, 0xDD#8, 0xE3#8, 0xE4#8, 0xEB#8, 0xEC#8, 0xED#8, 0xF4#8, 0xFC#8, 0xFD#8] →
      decodeBytes op b1 b2 = .illegal op ∧ encode (.illegal op) = [op]) ∧
    exec (.illegal op) s = .next (after s (match s.params.illegalOpcode with
      | .nop => s.cpu
      | .stuck => { s.cpu with pc := s.cpu.pc - 1, ime := false, eiPending := false }) 4)) ∧
  (∀ (cbop b2 : Byte) (s : State), decodeBytes 0xCB cbop b2 = decodeCb cbop ∧ encode (decodeCb cbop) = [0xCB, cbop] ∧
    ∃ t, exec (.prefixCB cbop) s = .next t ∧ exec (decodeCb cbop) s = .next t)

/-- With no source both enabled and flagged the poll changes nothing; with IME = 0 it only clears halted; with IME = 1
and i the lowest pending source it clears IF bit i, IME, ei_pending and halted, pushes PC (high byte at SP - 1, low
byte at SP - 2, after the IF write), sets PC to 0x40 + 8 i and costs INT_DISPATCH_CYCLES. (R405, R410.) -/
def Obligations.PollAndServiceCases : Prop :=
  ∀ (s : State),
    let p := s.mem 0xFFFF &&& s.mem 0xFF0F &&& 0x1F
    (p = 0 → s.pollAndService = s) ∧
    (p ≠ 0 → s.cpu.ime = false → s.pollAndService = { s with cpu := { s.cpu with halted := false } }) ∧
    (∀ i, i < 5 → p.getLsbD i = true → (∀ j, j < i → p.getLsbD j = false) → s.cpu.ime = true →
      s.pollAndService = after
        (((s.setMem 0xFF0F (byte (without (s.mem 0xFF0F).toNat i))).memWrite (s.cpu.sp - 1) (hiByte s.cpu.pc)).memWrite
          (s.cpu.sp - 2) (loByte s.cpu.pc))
        { s.cpu with
          halted := false, ime := false, eiPending := false, sp := s.cpu.sp - 2, pc := BitVec.ofNat 16 (0x40 + 8 * i) }
        s.params.intDispatchCycles)

/-- With both stack slots in plain memory, a dispatch followed by RETI leaves PC, SP and every 8-bit register as
before the dispatch and IME = 1. (R408, R412, R339.) -/
def Obligations.InterruptReturnResumes : Prop :=
  ∀ (s t : State) (i : Nat),
    plain s.params (s.cpu.sp - 1) = true → plain s.params (s.cpu.sp - 2) = true →
    touched s.params (s.cpu.sp - 2) (s.cpu.sp - 1) = false →
    exec .reti (s.takeInterrupt i) = .next t →
    t.cpu = { s.cpu with ime := true, eiPending := false }

/-- EI with EI_DELAY = 1 sets ei_pending, with 0 IME. In the next step, with IME still 0, the poll dispatches nothing
and then IME is set and ei_pending cleared, before the instruction; once IME is set, the poll of a later step
dispatches a pending source. DI, RETI and a dispatch clear ei_pending. (R406.) -/
def Obligations.EiTakesEffectOneInstructionLate : Prop :=
  ∀ (s : State),
    let p := s.mem 0xFFFF &&& s.mem 0xFF0F &&& 0x1F
    (s.params.eiDelay = true → exec .ei s = .next (after s { s.cpu with eiPending := true } 4)) ∧
    (s.params.eiDelay = false → exec .ei s = .next (after s { s.cpu with ime := true } 4)) ∧
    (s.cpu.ime = false → s.cpu.eiPending = true → s.beginStep = { s with cpu := { s.cpu with
      ime := true, eiPending := false, halted := if p = 0 then s.cpu.halted else false } }) ∧
    (s.cpu.ime = true → p ≠ 0 → s.beginStep.cpu.ime = false ∧ s.beginStep.cpu.eiPending = false ∧
      s.beginStep.cpu.sp = s.cpu.sp - 2) ∧
    (∃ t, exec .di s = .next t ∧ t.cpu.ime = false ∧ t.cpu.eiPending = false) ∧
    (∃ t, exec .reti s = .next t ∧ t.cpu.ime = true ∧ t.cpu.eiPending = false) ∧
    (∀ i, (s.takeInterrupt i).cpu.eiPending = false)

/-- machineStep is the CPU step run after the poll and the end of an EI delay, followed by a tick of all the cycles of
the step, dispatch included, which are charged to cycle_balance. The cost is kept in stepCycles (log entry 9). (R401.)
-/
def Obligations.MachineStepTicksAndCharges : Prop :=
  ∀ (s t : State),
    (let polled := s.pollAndService
     let ready := if polled.cpu.eiPending then { polled with cpu := { polled.cpu with ime := true, eiPending := false } }
       else polled
     cpuStep ready = .next t) →
    machineStep s = .next { t.tick t.stepCycles with
      driver := { t.driver with cycleBalance := t.driver.cycleBalance - t.stepCycles } } ∧
    (t.tick t.stepCycles).driver = t.driver ∧ (t.tick t.stepCycles).stepCycles = t.stepCycles

/-- For every state and every a and b, the two ticks leave exactly the state that one tick of a + b leaves; div
advances by the whole 256-cycle periods of div_acc plus the cycles, modulo 256; with TAC bit 2 clear, TIMA and
tima_acc do not change. (R436, R430.) -/
def Obligations.TimerDoesNotDependOnSplit : Prop :=
  ∀ (s : State) (a b : Nat),
    (s.tick a).tick b = s.tick (a + b) ∧
    (s.tick a).timer.div.toNat = (s.timer.div.toNat + (s.timer.divAcc + a) / 256) % 256 ∧
    ((s.mem 0xFF07).getLsbD 2 = false → (s.tick a).mem 0xFF05 = s.mem 0xFF05 ∧ (s.tick a).timer.timaAcc = s.timer.timaAcc)

/-- div and div_acc advance by the cycles at 256 a count. With TAC bit 2 set and P the period of TAC bits 1-0,
tima_acc keeps the remainder and TIMA takes the n whole periods as increments: it counts up without overflow while it
can, leaving IF; past 0xFF it counts modulo the span from TMA and IF bit 2 is set. With TAC bit 2 clear nothing of
TIMA changes. No other state changes. (R430, R431, R432, R433.) -/
def Obligations.TimerTickResults : Prop :=
  ∀ (s : State) (c : Nat),
    let t := s.tick c
    let tac := s.mem 0xFF07
    let period := [1024, 16, 64, 256].getD (tac.toNat % 4) 0
    let n := (s.timer.timaAcc + c) / period
    let x := (s.mem 0xFF05).toNat
    let tma := (s.mem 0xFF06).toNat
    t.timer.divAcc = (s.timer.divAcc + c) % 256 ∧
    t.timer.div = byte (s.timer.div.toNat + (s.timer.divAcc + c) / 256) ∧
    (tac.getLsbD 2 = false → t = { s with timer := { s.timer with div := t.timer.div, divAcc := t.timer.divAcc } }) ∧
    (tac.getLsbD 2 = true →
      t.timer.timaAcc = (s.timer.timaAcc + c) % period ∧
      (x + n < 256 → (t.mem 0xFF05).toNat = x + n ∧ t.mem 0xFF0F = s.mem 0xFF0F) ∧
      (256 ≤ x + n → (t.mem 0xFF05).toNat = tma + (x + n - 256) % (256 - tma) ∧
        t.mem 0xFF0F = s.mem 0xFF0F ||| 0x04) ∧
      (∀ k, k ≠ 0xFF05 → k ≠ 0xFF0F → t.mem k = s.mem k) ∧
      t = { s with ram := { s.ram with mem := t.ram.mem }, timer := t.timer })

/-- SetLY stores the line, sets STAT bit 2 exactly when it equals LYC, and requests LCD STAT exactly when it matches
with STAT bit 6 set. SetMode writes STAT bits 1-0 and requests LCD STAT only with STAT_MODE_IRQ = on, a mode other
than 3 and its STAT bit set. Every other stored byte is unchanged. (R451, R452.) -/
def Obligations.LineAndModeUpdates : Prop :=
  ∀ (s : State),
    (∀ l, l < 154 →
      let t := s.setLY l
      let hit := decide (l = (s.mem 0xFF45).toNat)
      let stat := if hit then withBit (s.mem 0xFF41).toNat 2 else without (s.mem 0xFF41).toNat 2
      ∀ k, t.mem k = if k = 0xFF44 then byte l
        else if k = 0xFF41 then byte stat
        else if k = 0xFF0F then (if hit && (s.mem 0xFF41).getLsbD 6 then s.mem 0xFF0F ||| 0x02 else s.mem 0xFF0F)
        else s.mem k) ∧
    (∀ m : BitVec 2,
      let t := s.setMode m
      t.ppu.mode = m ∧
      ∀ k, t.mem k = if k = 0xFF41 then byte ((s.mem 0xFF41).toNat / 4 * 4 + m.toNat)
        else if k = 0xFF0F then
          (if s.params.statModeIrq && decide (m ≠ 3) && (s.mem 0xFF41).getLsbD (3 + m.toNat) then s.mem 0xFF0F ||| 0x02
          else s.mem 0xFF0F)
        else s.mem k)

/-- Entering mode 3 of line l stores SCX, SCY, WX and WY as the snapshot, writes FB[l][0..159] with the pixels of that
moment, leaves every other line of FB and every byte but STAT and IF as they were, and begins a 172-cycle budget. Mode
3 raises no request. (R453.) -/
def Obligations.LineIsRenderedAtModeThreeEntry : Prop :=
  ∀ (s : State) (l : Nat), l < 144 →
    let t := s.startTransfer l
    let u := (s.setMode 3).takeSnapshot
    u.ppu.snap = { scx := s.mem 0xFF43, scy := s.mem 0xFF42, wx := s.mem 0xFF4B, wy := s.mem 0xFF4A } ∧
    t.ppu.snap = u.ppu.snap ∧
    (∀ k px, px < 160 → t.ppu.fb.read (160 * k + px) =
      if k = l then (if s.params.colorMode = .cgb then u.cgbPixel px l else u.dmgPixel px l)
      else s.ppu.fb.read (160 * k + px)) ∧
    (∀ a, a ≠ 0xFF41 → t.mem a = s.mem a) ∧
    t.cpu = s.cpu ∧ t.driver.phase = .transfer l ∧ t.driver.cycleBalance = s.driver.cycleBalance + 172

/-- The map address is M + 32 ty + tx; the data address is 0x8000 + 16 t with LCDC bit 4 set, else 0x9000 + 16 times
the signed t, in 0x8800-0x97F0; the color index takes bit 7 - c of the two bitplane bytes, the second one high;
palette shade i is bits 2i+1:2i. (R454.) -/
def Obligations.TileFetchArithmetic : Prop :=
  ∀ (s : State) (t : Byte) (m tx ty addr r c : Nat) (bank1 : Bool) (pal : Byte) (ci : BitVec 2),
    tileIndexAddr m tx ty = m + 32 * ty + tx ∧
    ((s.mem 0xFF40).getLsbD 4 = true → s.tileDataAddr t = 0x8000 + 16 * t.toNat) ∧
    ((s.mem 0xFF40).getLsbD 4 = false → (s.tileDataAddr t : Int) =
      0x9000 + 16 * (if t.toNat < 128 then (t.toNat : Int) else (t.toNat : Int) - 256)) ∧
    (let bank := fun a => if bank1 then s.ram.vram1.read (a - 0x8000) else s.ram.mem.read a
     c < 8 → (s.pixelOf bank1 addr r c).toNat = 2 * ((bank (addr + 2 * r + 1)).toNat / 2 ^ (7 - c) % 2) +
      (bank (addr + 2 * r)).toNat / 2 ^ (7 - c) % 2) ∧
    (shade pal ci).toNat = pal.toNat / 2 ^ (2 * ci.toNat) % 4

/-- On integers: the window is looked at exactly when LCDC bit 5 is set, l reaches WY, WX is at most 166 and px
reaches WX - 7, at column px - (WX - 7) and row l - WY of the map of LCDC bit 6; else the background at (SCX + px, SCY
+ l) modulo 256 of the map of LCDC bit 3. In DMG with LCDC bit 0 clear the result is (0, 0); else it is the color
index of the tile found there, with the CGB attribute's flips and bank. (R455.) -/
def Obligations.BackgroundAndWindowPixel : Prop :=
  ∀ (s : State) (px l : Nat), px < 160 → l < 144 →
    let lcdc := s.mem 0xFF40
    let wx := (s.ppu.snap.wx.toNat : Int)
    let wy := (s.ppu.snap.wy.toNat : Int)
    let inWindow := lcdc.getLsbD 5 = true ∧ wy ≤ l ∧ wx ≤ 166 ∧ wx - 7 ≤ px
    let (m, x, y) := s.bgWinSource px l
    let cgb := s.params.colorMode = .cgb
    let ia := m + 32 * (y / 8) + x / 8
    let attr := if cgb then s.ram.vram1.read (ia - 0x8000) else 0
    let r := if attr.getLsbD 6 then 7 - y % 8 else y % 8
    let c := if attr.getLsbD 5 then 7 - x % 8 else x % 8
    (inWindow → m = (if lcdc.getLsbD 6 then 0x9C00 else 0x9800) ∧ (x : Int) = px - (wx - 7) ∧ (y : Int) = l - wy) ∧
    (¬ inWindow → m = (if lcdc.getLsbD 3 then 0x9C00 else 0x9800) ∧ x = (s.ppu.snap.scx.toNat + px) % 256 ∧
      y = (s.ppu.snap.scy.toNat + l) % 256) ∧
    (s.params.colorMode = .dmg → lcdc.getLsbD 0 = false → s.bgWinPixel px l = (0, 0)) ∧
    (cgb ∨ lcdc.getLsbD 0 = true → s.bgWinPixel px l =
      (s.pixelOf (attr.getLsbD 3) (s.tileDataAddr (s.ram.mem.read ia)) r c, attr))

/-- On integers, entry k covers (px, l) when Y - 16 <= l < Y - 16 + h and X - 8 <= px < X; its color index comes from
the flipped row and column of its tile, the tile pair of 8x16 sprites chosen by the row; index 0 is transparent. With
LCDC bit 1 set, SpritePixel is the opaque pixel of the least such k below 40, or none; with it clear, none. (R457.) -/
def Obligations.SpriteSelection : Prop :=
  ∀ (s : State) (px l : Nat),
    let lcdc := s.mem 0xFF40
    let h : Nat := if lcdc.getLsbD 2 then 16 else 8
    let oam := fun k => s.ram.mem.read (0xFE00 + k)
    let covers := fun k => ((oam (4 * k)).toNat : Int) - 16 ≤ l ∧ (l : Int) < (oam (4 * k)).toNat - 16 + h ∧
      ((oam (4 * k + 1)).toNat : Int) - 8 ≤ px ∧ (px : Int) < (oam (4 * k + 1)).toNat
    let color := fun k =>
      let a := oam (4 * k + 3)
      let t := (oam (4 * k + 2)).toNat
      let r0 := l + 16 - (oam (4 * k)).toNat
      let c0 := px + 8 - (oam (4 * k + 1)).toNat
      let r := if a.getLsbD 6 then h - 1 - r0 else r0
      let c := if a.getLsbD 5 then 7 - c0 else c0
      let tile := if h = 16 then (if r < 8 then t / 2 * 2 else t / 2 * 2 + 1) else t
      s.pixelOf (decide (s.params.colorMode = .cgb) && a.getLsbD 3) (0x8000 + 16 * tile) (r % 8) c
    (lcdc.getLsbD 1 = false → s.spritePixel px l = none) ∧
    (lcdc.getLsbD 1 = true →
      (∀ k, k < 40 → covers k → color k ≠ 0 → (∀ j, j < k → ¬ (covers j ∧ color j ≠ 0)) →
        s.spritePixel px l = some (color k, oam (4 * k + 3))) ∧
      ((∀ k, k < 40 → ¬ (covers k ∧ color k ≠ 0)) → s.spritePixel px l = none))

/-- DMG: without a sprite pixel, or with one behind a nonzero background index, the background shade (0 with LCDC bit
0 clear), else the shade of the sprite palette its attribute names. CGB: the sprite color when LCDC bit 0 is clear,
the background index is 0 or neither priority bit is set, else the background color; a color is the low 15 bits of its
two palette bytes. (R459, R460.) -/
def Obligations.PixelComposition : Prop :=
  ∀ (s : State) (px l : Nat),
    let lcdc := s.mem 0xFF40
    let b := s.bgWinPixel px l
    let bshade := if lcdc.getLsbD 0 then shade (s.mem 0xFF47) b.1 else 0
    let color := fun (p : Store 8) (pal ci : Nat) =>
      ((p.read (8 * pal + 2 * ci)).toNat + 256 * (p.read (8 * pal + 2 * ci + 1)).toNat) % 32768
    (s.spritePixel px l = none → s.dmgPixel px l = bshade ∧
      (s.cgbPixel px l).toNat = color s.ram.bgPal (b.2.toNat % 8) b.1.toNat) ∧
    (∀ sci a, s.spritePixel px l = some (sci, a) →
      s.dmgPixel px l = (if a.getLsbD 7 = true ∧ b.1 ≠ 0 then bshade
        else shade (if a.getLsbD 4 then s.mem 0xFF49 else s.mem 0xFF48) sci) ∧
      (s.cgbPixel px l).toNat =
        (if lcdc.getLsbD 0 = false ∨ b.1 = 0 ∨ (b.2.getLsbD 7 = false ∧ a.getLsbD 7 = false) then
          color s.ram.objPal (a.toNat % 8) sci.toNat
        else color s.ram.bgPal (b.2.toNat % 8) b.1.toNat))

/-- With cycle_balance positive nothing happens. Else, from every valid position, the driver goes to the next one,
adds its budget, sets LY and the mode (STAT bits 1-0), samples LCDC bit 7 only between frames and after 154 idle
lines; the V-blank request is made on entering line 144 alone, where FB is copied to the frame; idle lines make no
request at all; after line 153 next_frame returns. The cut into transitions is the model's (log entry 8), and so is
the counter framesDone (log entry 11). (R471, R475.) -/
def Obligations.DriverSequence : Prop :=
  ∀ (s : State),
    (0 < s.driver.cycleBalance → s.driverTurn = s) ∧
    (s.driver.cycleBalance ≤ 0 → s.driver.phase.wf = true →
      let t := s.driverTurn
      (match nextLine ((s.mem 0xFF40).getLsbD 7) s.driver.phase with
       | some (phase, budget, ly, mode) =>
          t.driver.phase = phase ∧ t.driver.cycleBalance = s.driver.cycleBalance + budget ∧
          (∀ l, ly = some l → t.mem 0xFF44 = byte l) ∧ (t.mem 0xFF41).toNat % 4 = mode ∧ t.ppu.mode.toNat = mode ∧
          t.driver.framesDone = s.driver.framesDone
       | none => t = { s with driver := { s.driver with
          phase := .between, framesDone := s.driver.framesDone + 1 } }) ∧
      (s.driver.phase = .hblank 143 → (t.mem 0xFF0F).getLsbD 0 = true ∧ t.driver.frame = s.ppu.fb) ∧
      (s.driver.phase ≠ .hblank 143 → (t.mem 0xFF0F).getLsbD 0 = (s.mem 0xFF0F).getLsbD 0) ∧
      ((∃ k, t.driver.phase = .idle k) → t.mem 0xFF0F = s.mem 0xFF0F ∧ t.ppu.fb = s.ppu.fb) ∧
      t.cpu = s.cpu)

/-- press(b) clears controls bit b and requests the joypad interrupt exactly when the button was up and JOYPAD_IRQ =
on_press; release sets the bit; release_all sets all; nothing else changes. A button id above 7 is refused. Between
frames load_rom of a file that opens answers State.loaded of its image and draws, but for the host side, framesDone
and divDraws, which go on; a touched .sav file becomes what the host wrote, or is gone, and no other file and no other
state changes. That save, load, load_rom and touching a .sav file are refused during a next_frame call is the model's
choice, from R482, R483 and 93 I13 (log entry 7), and so are the names of the refusals; that load_rom keeps the host
side, framesDone and divDraws is too (log entries 4, 7 and 11), and so is what an empty image does (log entry 16).
(R480, R481, R482, R483, R500.) -/
def Obligations.HostControls : Prop :=
  ∀ (s : State) (b : Nat),
    (b < 8 → hostCall (.press b) s = .next { s with
      ram := if s.params.joypadIrq = .onPress ∧ s.controls.getLsbD b = true then
        { s.ram with mem := s.ram.mem.write 0xFF0F (s.ram.mem.read 0xFF0F ||| 0x10) } else s.ram
      controls := byte (without s.controls.toNat b) }) ∧
    (b < 8 → hostCall (.release b) s = .next { s with controls := byte (withBit s.controls.toNat b) }) ∧
    hostCall .releaseAll s = .next { s with controls := 0xFF } ∧
    (8 ≤ b → hostCall (.press b) s = .refused (.buttonId b) ∧ hostCall (.release b) s = .refused (.buttonId b)) ∧
    (s.driver.phase = .between →
      (∀ path image draws, hostCall (.loadRom path (some image) draws) s =
        .next { State.loaded s.params image draws with
          hostSide := { s.hostSide with romPath := path }
          driver := { (State.loaded s.params image draws).driver with framesDone := s.driver.framesDone }
          divDraws := s.divDraws }) ∧
      (∀ path file, ∃ t, hostCall (.touchSav path file) s = .next t ∧
        t = { s with hostSide := { s.hostSide with savFiles := t.hostSide.savFiles } } ∧
        ∀ q, findSav t.hostSide.savFiles q = if q = path then file else findSav s.hostSide.savFiles q)) ∧
    (s.driver.phase ≠ .between → hostCall .saveState s = .refused .duringFrame ∧
      hostCall .loadState s = .refused .duringFrame ∧
      (∀ path image draws, hostCall (.loadRom path (some image) draws) s = .refused .duringFrame) ∧
      ∀ path file, hostCall (.touchSav path file) s = .refused .duringFrame) ∧
    (∀ path draws, hostCall (.loadRom path none draws) s = .refused .romFileUnreadable)

/-- For every s between frames that meets the invariant, save_state answers a next state t, its .sav file holds a d
with the CPU registers and the RAM image of s (in DMG, MEM), and no other file and nothing else of s is changed.
load_state in t restores: it gives t itself but for the report. So does it in every u of the same parameters between
frames whose .sav file is d: under the ROM of s always, and under another where SAME_ROM holds, u takes the saved RAM
image and CPU registers and keeps its bank registers, timer, controls, PPU and driver; where SAME_ROM fails, or with
no file, it only reports the failure. How files, SAME_ROM and reports are held: log entries 5, 6 and 11. (R482.) -/
def Obligations.SaveThenLoadRestores : Prop :=
  (∀ (s : State), s.Inv → s.driver.phase = .between →
    ∃ t d, hostCall .saveState s = .next t ∧ t.savFile = some d ∧
      d.cpu = s.cpu ∧ d.ram.mem = s.ram.mem ∧ (s.params.colorMode = .cgb → d.ram = s.ram) ∧
      t = { s with hostSide := { s.hostSide with savFiles := t.hostSide.savFiles } } ∧
      (∀ q, q ≠ s.hostSide.romPath → findSav t.hostSide.savFiles q = findSav s.hostSide.savFiles q) ∧
      hostCall .loadState t = .next { t with hostSide := { t.hostSide with loadReport := some true } } ∧
      (∀ u : State, u.params = s.params → u.driver.phase = .between → u.savFile = some d →
        (u.cart.rom = s.cart.rom → sameRom d u.cart.rom = true) ∧
        hostCall .loadState u = .next (if sameRom d u.cart.rom then
          { u with
            ram := if s.params.colorMode = .cgb then s.ram else { u.ram with mem := s.ram.mem }
            cpu := s.cpu
            hostSide := { u.hostSide with loadReport := some true } }
          else { u with hostSide := { u.hostSide with loadReport := some false } }))) ∧
  (∀ (u : State), u.driver.phase = .between →
    (u.savFile = none ∨ (∃ d, u.savFile = some d ∧ sameRom d u.cart.rom = false)) →
    hostCall .loadState u = .next { u with hostSide := { u.hostSide with loadReport := some false } })

/-- For any parameters, image and canonical RAM draws, State.loaded has: the CPU registers of R81 by color mode, the
I/O bytes, timer, palettes and controls of R80, the bank, PPU and driver state of R82, the ROM bytes of the image, and
in every other byte 0 with RAM_INIT = zero or the drawn byte with draw. load_rom of a file of one byte or more, called
between frames in any state, answers a next state that has all of these and every .sav file as it was; of a file that
cannot be opened it has no move. The draws are an argument (log entry 3). (R80, R81, R82, R481, R500, R504.) -/
def Obligations.LoadRomResets : Prop :=
  ∀ (image : RomImage) (draws : Ram), Memory.wf draws = true → image.bytes.wf 0 image.size = true →
    (∀ p, ResetState p image draws (State.loaded p image draws)) ∧
    (∀ (s : State) (path : Nat), s.driver.phase = .between → 0 < image.size →
      ∃ t, hostCall (.loadRom path (some image) draws) s = .next t ∧ ResetState s.params image draws t ∧
        t.hostSide.savFiles = s.hostSide.savFiles) ∧
    (∀ (s : State) (path : Nat), hostCall (.loadRom path none draws) s = .refused .romFileUnreadable)

end
end

