-- ==== Sys2Proof/Laws/Decode.lean ====
section
/-! SUPPORT. What the decoder does, said once: it looks at no byte past the instruction's length. -/

namespace Sys2Proof

theorem decodeBytes_ofNat (n : Nat) (hn : n < 256) (b1 b2 c1 c2 : Byte) (h1 : instrLength (BitVec.ofNat 8 n) ≠ 1 → b1 = c1)
    (h2 : instrLength (BitVec.ofNat 8 n) = 3 → b2 = c2) :
    decodeBytes (BitVec.ofNat 8 n) b1 b2 = decodeBytes (BitVec.ofNat 8 n) c1 c2 := by
  interval_cases n
  all_goals first
    | rfl
    | (cases h1 (by decide); rfl)
    | (cases h1 (by decide); cases h2 (by decide); rfl)

/-- The decoder ignores the bytes past LEN of the opcode byte (30_encoding.md R162, R169). -/
theorem decodeBytes_congr (op b1 b2 c1 c2 : Byte) (h1 : instrLength op ≠ 1 → b1 = c1)
    (h2 : instrLength op = 3 → b2 = c2) : decodeBytes op b1 b2 = decodeBytes op c1 c2 := by
  have e : BitVec.ofNat 8 op.toNat = op := by simp
  have h := decodeBytes_ofNat op.toNat op.isLt b1 b2 c1 c2
  rw [e] at h
  exact h h1 h2

end Sys2Proof
end

