-- ==== Sys2Proof/Laws/Store.lean ====
section
/-! SUPPORT. Reading after writing a sparse store, and the canonical form, which every store operation keeps. -/

namespace Sys2Proof

theorem Store.read_erase {w : Nat} (m : Store w) (a b : Nat) :
    (m.erase a).read b = if b = a then 0 else m.read b := by
  induction m with
  | nil => simp [Store.erase, Store.read]
  | cons c m ih =>
    obtain ⟨k, x⟩ := c
    by_cases hk : a = k
    · subst hk
      simp only [Store.erase, if_true, ih, Store.read]
      split <;> simp_all
    · simp only [Store.erase, if_neg hk, Store.read, ih]
      by_cases hb : b = k
      · subst hb; simp [Ne.symm hk]
      · simp [hb]

theorem Store.read_insert {w : Nat} (m : Store w) (a b : Nat) (v : BitVec w) (h : m.read a = 0) (hn : m.erase a = m) :
    (m.insert a v).read b = if b = a then v else m.read b := by
  induction m with
  | nil => simp [Store.insert, Store.read]
  | cons c m ih =>
    obtain ⟨k, x⟩ := c
    have hk : a ≠ k := by
      intro e; subst e
      have := congrArg List.length hn
      simp only [Store.erase, if_true, List.length_cons] at this
      have hl : ∀ n : Store w, (n.erase a).length ≤ n.length := by
        intro n
        induction n with
        | nil => simp [Store.erase]
        | cons d n ih2 => obtain ⟨j, y⟩ := d; simp only [Store.erase]; split <;> simp <;> omega
      have := hl m
      omega
    simp only [Store.erase, if_neg hk, List.cons.injEq, true_and] at hn
    simp only [Store.read, if_neg hk] at h
    by_cases hlt : a < k
    · simp only [Store.insert, if_pos hlt, Store.read]
    · simp only [Store.insert, if_neg hlt, Store.read, ih h hn]
      by_cases hb : b = k
      · subst hb; simp [Ne.symm hk]
      · simp [hb]

theorem Store.erase_erase {w : Nat} (m : Store w) (a : Nat) : (m.erase a).erase a = m.erase a := by
  induction m with
  | nil => rfl
  | cons c m ih =>
    obtain ⟨k, x⟩ := c
    by_cases hk : a = k
    · simp only [Store.erase, if_pos hk, ih]
    · simp only [Store.erase, if_neg hk, ih]

/-- A read after a write: the value written at its own index, what was there at every other. -/
theorem Store.read_write {w : Nat} (m : Store w) (a b : Nat) (v : BitVec w) :
    (m.write a v).read b = if b = a then v else m.read b := by
  unfold Store.write
  split
  · next h => rw [Store.read_erase, h]
  · rw [Store.read_insert _ _ _ _ (by simp [Store.read_erase]) (Store.erase_erase m a), Store.read_erase]
    split <;> rfl

@[simp] theorem Store.read_write_same {w : Nat} (m : Store w) (a : Nat) (v : BitVec w) : (m.write a v).read a = v := by
  simp [Store.read_write]

theorem Store.read_write_ne {w : Nat} (m : Store w) {a b : Nat} (v : BitVec w) (h : b ≠ a) :
    (m.write a v).read b = m.read b := by
  simp [Store.read_write, h]

/-! ### The canonical form -/

theorem Store.rising_mono {w : Nat} {lo lo' : Nat} {m : Store w} (h : m.rising lo = true) (hl : lo' ≤ lo) :
    m.rising lo' = true := by
  cases m with
  | nil => rfl
  | cons c m =>
    obtain ⟨k, x⟩ := c
    simp only [Store.rising, Bool.and_eq_true, decide_eq_true_eq] at h ⊢
    exact ⟨⟨le_trans hl h.1.1, h.1.2⟩, h.2⟩

theorem Store.rising_erase {w : Nat} {lo : Nat} {m : Store w} (a : Nat) (h : m.rising lo = true) :
    (m.erase a).rising lo = true := by
  induction m generalizing lo with
  | nil => rfl
  | cons c m ih =>
    obtain ⟨k, x⟩ := c
    simp only [Store.rising, Bool.and_eq_true, decide_eq_true_eq] at h
    by_cases hk : a = k
    · simp only [Store.erase, if_pos hk]
      exact ih (Store.rising_mono h.2 (by omega))
    · simp only [Store.erase, if_neg hk, Store.rising, Bool.and_eq_true, decide_eq_true_eq]
      exact ⟨h.1, ih h.2⟩

theorem Store.rising_insert {w : Nat} {lo a : Nat} {m : Store w} {v : BitVec w} (h : m.rising lo = true)
    (ha : lo ≤ a) (hv : v ≠ 0) (hn : m.erase a = m) : (m.insert a v).rising lo = true := by
  induction m generalizing lo with
  | nil =>
    simp only [Store.insert, Store.rising, Bool.and_eq_true, decide_eq_true_eq]
    exact ⟨⟨ha, hv⟩, trivial⟩
  | cons c m ih =>
    obtain ⟨k, x⟩ := c
    simp only [Store.rising, Bool.and_eq_true, decide_eq_true_eq] at h
    by_cases hlt : a < k
    · simp only [Store.insert, if_pos hlt, Store.rising, Bool.and_eq_true, decide_eq_true_eq]
      exact ⟨⟨ha, hv⟩, ⟨⟨by omega, h.1.2⟩, h.2⟩⟩
    · have hk : a ≠ k := by
        intro e; subst e
        have hr := Store.read_erase ((a, x) :: m) a a
        rw [hn] at hr
        simp [Store.read] at hr
        exact h.1.2 hr
      simp only [Store.erase, if_neg hk, List.cons.injEq, true_and] at hn
      simp only [Store.insert, if_neg hlt, Store.rising, Bool.and_eq_true, decide_eq_true_eq]
      exact ⟨h.1, ih h.2 (by omega) hn⟩

theorem Store.all_erase {w : Nat} {p : Nat × BitVec w → Bool} {m : Store w} (a : Nat) (h : m.all p = true) :
    (m.erase a).all p = true := by
  induction m with
  | nil => rfl
  | cons c m ih =>
    obtain ⟨k, x⟩ := c
    simp only [List.all_cons, Bool.and_eq_true] at h
    by_cases hk : a = k
    · simp only [Store.erase, if_pos hk]; exact ih h.2
    · simp only [Store.erase, if_neg hk, List.all_cons, Bool.and_eq_true]; exact ⟨h.1, ih h.2⟩

theorem Store.all_insert {w : Nat} {p : Nat × BitVec w → Bool} {m : Store w} {a : Nat} {v : BitVec w}
    (h : m.all p = true) (hp : p (a, v) = true) : (m.insert a v).all p = true := by
  induction m with
  | nil => simp [Store.insert, hp]
  | cons c m ih =>
    obtain ⟨k, x⟩ := c
    simp only [List.all_cons, Bool.and_eq_true] at h
    by_cases hlt : a < k
    · simp [Store.insert, if_pos hlt, hp, h.1, h.2]
    · simp only [Store.insert, if_neg hlt, List.all_cons, Bool.and_eq_true]; exact ⟨h.1, ih h.2⟩

/-- A write inside the store's indexes keeps the canonical form. -/
theorem Store.wf_write {w : Nat} {lo hi a : Nat} {m : Store w} (v : BitVec w) (h : m.wf lo hi = true) (hl : lo ≤ a)
    (hh : a < hi) : (m.write a v).wf lo hi = true := by
  simp only [Store.wf, Bool.and_eq_true] at h ⊢
  unfold Store.write
  split
  · exact ⟨Store.rising_erase a h.1, Store.all_erase a h.2⟩
  · next hv =>
    exact ⟨Store.rising_insert (Store.rising_erase a h.1) hl hv (Store.erase_erase m a),
      Store.all_insert (Store.all_erase a h.2) (by simpa using hh)⟩

@[simp] theorem Store.wf_nil {w : Nat} (lo hi : Nat) : Store.wf lo hi ([] : Store w) = true := rfl

theorem Store.wf_foldl_write {w : Nat} {lo hi : Nat} (cells : Store w) {m : Store w} (h : m.wf lo hi = true)
    (hc : ∀ c ∈ cells, lo ≤ c.1 ∧ c.1 < hi) : (cells.foldl (fun m c => m.write c.1 c.2) m).wf lo hi = true := by
  induction cells generalizing m with
  | nil => exact h
  | cons c cells ih =>
    have := hc c (List.mem_cons_self ..)
    exact ih (Store.wf_write c.2 h this.1 this.2) fun d hd => hc d (List.mem_cons_of_mem _ hd)

/-- A store filled from any cells is canonical. -/
theorem Store.wf_fill {w : Nat} (lo hi : Nat) (cells : Store w) : (Store.fill lo hi cells).wf lo hi = true := by
  have gen : ∀ (cells m : Store w), m.wf lo hi = true →
      (cells.foldl (fun m c => if lo ≤ c.1 ∧ c.1 < hi then m.write c.1 c.2 else m) m).wf lo hi = true := by
    intro cells
    induction cells with
    | nil => intro m h; exact h
    | cons c cells ih =>
      intro m h
      refine ih _ ?_
      show Store.wf lo hi (if lo ≤ c.1 ∧ c.1 < hi then m.write c.1 c.2 else m) = true
      split
      · next hc => exact Store.wf_write c.2 h hc.1 hc.2
      · exact h
  exact gen cells [] rfl

/-- A canonical store reads 0 below its first index. -/
theorem Store.read_below {w : Nat} {lo : Nat} {m : Store w} {a : Nat} (h : m.rising lo = true) (ha : a < lo) :
    m.read a = 0 := by
  induction m generalizing lo with
  | nil => rfl
  | cons c m ih =>
    obtain ⟨k, x⟩ := c
    simp only [Store.rising, Bool.and_eq_true, decide_eq_true_eq] at h
    simp only [Store.read, if_neg (show a ≠ k by omega)]
    exact ih h.2 (by omega)

/-- Two canonical stores that read alike are the same list. -/
theorem Store.rising_ext {w : Nat} {lo : Nat} {m n : Store w} (hm : m.rising lo = true) (hn : n.rising lo = true)
    (h : ∀ a, m.read a = n.read a) : m = n := by
  induction m generalizing n lo with
  | nil =>
    cases n with
    | nil => rfl
    | cons c n =>
      obtain ⟨k, x⟩ := c
      simp only [Store.rising, Bool.and_eq_true, decide_eq_true_eq] at hn
      have := h k
      simp [Store.read] at this
      exact absurd this.symm hn.1.2
  | cons c m ih =>
    obtain ⟨k, x⟩ := c
    have hm' := hm
    simp only [Store.rising, Bool.and_eq_true, decide_eq_true_eq] at hm
    cases n with
    | nil =>
      have := h k
      simp [Store.read] at this
      exact absurd this hm.1.2
    | cons d n =>
      obtain ⟨j, y⟩ := d
      have hn' := hn
      simp only [Store.rising, Bool.and_eq_true, decide_eq_true_eq] at hn
      have e : k = j := by
        rcases lt_trichotomy k j with hlt | he | hlt
        · have h1 := h k
          have h2 : Store.read ((j, y) :: n) k = 0 := by
            simp only [Store.read, if_neg (show k ≠ j by omega)]
            exact Store.read_below hn.2 (by omega)
          rw [h2] at h1
          simp [Store.read] at h1
          exact absurd h1 hm.1.2
        · exact he
        · have h1 := h j
          have h2 : Store.read ((k, x) :: m) j = 0 := by
            simp only [Store.read, if_neg (show j ≠ k by omega)]
            exact Store.read_below hm.2 (by omega)
          rw [h2] at h1
          simp [Store.read] at h1
          exact absurd h1.symm hn.1.2
      subst e
      have hx := h k
      simp [Store.read] at hx
      subst hx
      have : m = n := ih hm.2 hn.2 fun a => by
        by_cases ha : a = k
        · subst ha; rw [Store.read_below hm.2 (by omega), Store.read_below hn.2 (by omega)]
        · have := h a
          simpa [Store.read, ha] using this
      rw [this]

/-- A canonical store filled from itself is itself. -/
theorem Store.fill_of_wf {w : Nat} {lo hi : Nat} {m : Store w} (h : m.wf lo hi = true) : Store.fill lo hi m = m := by
  have gen : ∀ (cells acc : Store w) (l : Nat), lo ≤ l → cells.rising l = true →
      (cells.all fun c => decide (c.1 < hi)) = true → ∀ a,
      (cells.foldl (fun m c => if lo ≤ c.1 ∧ c.1 < hi then m.write c.1 c.2 else m) acc).read a =
        if cells.read a = 0 then acc.read a else cells.read a := by
    intro cells
    induction cells with
    | nil => intro acc l _ _ _ a; simp [Store.read]
    | cons c cells ih =>
      intro acc l hl hr ha a
      obtain ⟨k, x⟩ := c
      simp only [Store.rising, List.all_cons, Bool.and_eq_true, decide_eq_true_eq] at hr ha
      rw [List.foldl_cons, if_pos ⟨by omega, ha.1⟩, ih _ (k + 1) (by omega) hr.2 ha.2 a]
      by_cases e : a = k
      · subst e
        rw [Store.read_below hr.2 (Nat.lt_succ_self _), if_pos rfl]
        simp only [Store.read, if_true, if_neg hr.1.2, Store.read_write_same]
      · simp [Store.read, e, Store.read_write_ne]
  have hf := Store.wf_fill lo hi m
  simp only [Store.wf, Bool.and_eq_true] at h hf
  refine Store.rising_ext hf.1 h.1 fun a => ?_
  rw [Store.fill, gen m [] lo (Nat.le_refl _) h.1 h.2 a]
  split
  · next e => rw [e]; rfl
  · rfl

end Sys2Proof
end

