-- ==== Sys2Proof/Laws/HostCalls.lean ====
section
/-! SUPPORT. What the host calls can do, said once: the .sav files, the fields a call leaves, and the restored memory. -/

namespace Sys2Proof.Machine

/-! ### The .sav files -/

theorem findSav_putSav (m : SavFiles) (p q : Nat) (d : SaveData) :
    findSav (putSav m p d) q = if q = p then some d else findSav m q := by
  induction m with
  | nil => rfl
  | cons c m ih =>
    obtain ⟨k, e⟩ := c
    simp only [putSav]
    split
    · rfl
    · split
      · next _ h => subst h; simp only [findSav]; split <;> rfl
      · next h =>
        simp only [findSav, ih]
        by_cases hq : q = k
        · subst hq; rw [if_pos rfl, if_pos rfl, if_neg (fun e => h e.symm)]
        · rw [if_neg hq, if_neg hq]

theorem findSav_dropSav (m : SavFiles) (p q : Nat) : findSav (dropSav m p) q = if q = p then none else findSav m q := by
  induction m with
  | nil => simp [dropSav, findSav]
  | cons c m ih =>
    obtain ⟨k, e⟩ := c
    simp only [dropSav]
    split
    · next h => subst h; rw [ih]; simp only [findSav]; split <;> rfl
    · next h =>
      simp only [findSav, ih]
      by_cases hq : q = k
      · subst hq; rw [if_pos rfl, if_pos rfl, if_neg (fun e => h e.symm)]
      · rw [if_neg hq, if_neg hq]

section
variable (s : State) (p : Nat) (f : Option SaveData)

@[simp] theorem State.setSav_params : (s.setSav p f).params = s.params := rfl

@[simp] theorem State.setSav_cpu : (s.setSav p f).cpu = s.cpu := rfl

@[simp] theorem State.setSav_cart : (s.setSav p f).cart = s.cart := rfl

@[simp] theorem State.setSav_ram : (s.setSav p f).ram = s.ram := rfl

@[simp] theorem State.setSav_timer : (s.setSav p f).timer = s.timer := rfl

@[simp] theorem State.setSav_controls : (s.setSav p f).controls = s.controls := rfl

@[simp] theorem State.setSav_ppu : (s.setSav p f).ppu = s.ppu := rfl

@[simp] theorem State.setSav_driver : (s.setSav p f).driver = s.driver := rfl

@[simp] theorem State.setSav_romPath : (s.setSav p f).hostSide.romPath = s.hostSide.romPath := rfl

@[simp] theorem State.setSav_schedule : (s.setSav p f).hostSide.schedule = s.hostSide.schedule := rfl

/-- A touched file is what the host wrote, and every other file is what it was (R483). -/
@[simp] theorem State.findSav_setSav (q : Nat) :
    findSav (s.setSav p f).hostSide.savFiles q = if q = p then f else findSav s.hostSide.savFiles q := by
  cases f with
  | none => exact findSav_dropSav _ _ _
  | some d => exact findSav_putSav _ _ _ _

end

@[simp] theorem State.saveState_savFile (s : State) : s.saveState.savFile = some s.saveImage := by
  simp [State.saveState, State.savFile]

/-! ### Restoring -/

/-- A file that `save_state` wrote belongs to the image it was written under (R482). -/
@[simp] theorem sameRom_saveImage (s : State) : sameRom s.saveImage s.cart.rom = true := by
  simp [sameRom, State.saveImage]

/-- Restoring what `s` saved into a state of the same color mode leaves the memory of `s` (R482). -/
theorem State.restoreRam_saveImage {s u : State} (h : Memory.wf s.ram = true) (hp : u.params = s.params) :
    u.restoreRam s.saveImage.ram = if s.isCgb then s.ram else { u.ram with mem := s.ram.mem } := by
  simp only [Memory.wf, Bool.and_eq_true] at h
  obtain ⟨⟨⟨⟨h1, h2⟩, h3⟩, h4⟩, h5⟩ := h
  have hc : u.isCgb = s.isCgb := by simp only [State.isCgb, hp]
  simp only [State.restoreRam, State.saveImage, hc]
  split
  · rw [Store.fill_of_wf h1, Store.fill_of_wf h2, Store.fill_of_wf h3, Store.fill_of_wf h4, Store.fill_of_wf h5]
  · rw [Store.fill_of_wf h1]

/-! ### load_rom -/

section
variable (s : State) (path : Nat) (image : RomImage) (draws : Ram)

@[simp] theorem State.loadRom_romPath : (s.loadRom path image draws).hostSide.romPath = path := rfl

/-- `load_rom` touches no .sav file (R500). -/
@[simp] theorem State.loadRom_savFiles : (s.loadRom path image draws).hostSide.savFiles = s.hostSide.savFiles := rfl

@[simp] theorem State.loadRom_schedule : (s.loadRom path image draws).hostSide.schedule = s.hostSide.schedule := rfl

end

end Sys2Proof.Machine
end

