-- ==== Sys2Proof/Laws/State.lean ====
section
/-! SUPPORT. What each update of State leaves unchanged and what it writes, field by field. -/

namespace Sys2Proof.Machine

/-! ### setReg -/

@[simp] theorem State.setReg_params (s : State) (r : Reg8) (v : Byte) :
    (s.setReg r v).params = s.params := by cases r <;> rfl

@[simp] theorem State.setReg_cart (s : State) (r : Reg8) (v : Byte) :
    (s.setReg r v).cart = s.cart := by cases r <;> rfl

@[simp] theorem State.setReg_ram (s : State) (r : Reg8) (v : Byte) : (s.setReg r v).ram = s.ram := by cases r <;> rfl

@[simp] theorem State.setReg_timer (s : State) (r : Reg8) (v : Byte) :
    (s.setReg r v).timer = s.timer := by cases r <;> rfl

@[simp] theorem State.setReg_controls (s : State) (r : Reg8) (v : Byte) :
    (s.setReg r v).controls = s.controls := by cases r <;> rfl

@[simp] theorem State.setReg_ppu (s : State) (r : Reg8) (v : Byte) : (s.setReg r v).ppu = s.ppu := by cases r <;> rfl

@[simp] theorem State.setReg_driver (s : State) (r : Reg8) (v : Byte) :
    (s.setReg r v).driver = s.driver := by cases r <;> rfl

@[simp] theorem State.setReg_hostSide (s : State) (r : Reg8) (v : Byte) :
    (s.setReg r v).hostSide = s.hostSide := by cases r <;> rfl

@[simp] theorem State.setReg_stepCycles (s : State) (r : Reg8) (v : Byte) :
    (s.setReg r v).stepCycles = s.stepCycles := by cases r <;> rfl

@[simp] theorem State.setReg_divDraws (s : State) (r : Reg8) (v : Byte) :
    (s.setReg r v).divDraws = s.divDraws := by cases r <;> rfl

@[simp] theorem State.setReg_cpu_f (s : State) (r : Reg8) (v : Byte) :
    (s.setReg r v).cpu.f = s.cpu.f := by cases r <;> rfl

@[simp] theorem State.setReg_cpu_sp (s : State) (r : Reg8) (v : Byte) :
    (s.setReg r v).cpu.sp = s.cpu.sp := by cases r <;> rfl

@[simp] theorem State.setReg_cpu_pc (s : State) (r : Reg8) (v : Byte) :
    (s.setReg r v).cpu.pc = s.cpu.pc := by cases r <;> rfl

@[simp] theorem State.setReg_cpu_ime (s : State) (r : Reg8) (v : Byte) :
    (s.setReg r v).cpu.ime = s.cpu.ime := by cases r <;> rfl

@[simp] theorem State.setReg_cpu_halted (s : State) (r : Reg8) (v : Byte) :
    (s.setReg r v).cpu.halted = s.cpu.halted := by cases r <;> rfl

@[simp] theorem State.setReg_cpu_eiPending (s : State) (r : Reg8) (v : Byte) :
    (s.setReg r v).cpu.eiPending = s.cpu.eiPending := by cases r <;> rfl

theorem State.getReg_setReg (s : State) (r q : Reg8) (v : Byte) :
    (s.setReg r v).getReg q = if q = r then v else s.getReg q := by cases r <;> cases q <;> rfl

@[simp] theorem State.getReg_setReg_same (s : State) (r : Reg8) (v : Byte) :
    (s.setReg r v).getReg r = v := by cases r <;> rfl

/-! ### setF -/

@[simp] theorem State.setF_params (s : State) (v : Byte) : (s.setF v).params = s.params := rfl

@[simp] theorem State.setF_cart (s : State) (v : Byte) : (s.setF v).cart = s.cart := rfl

@[simp] theorem State.setF_ram (s : State) (v : Byte) : (s.setF v).ram = s.ram := rfl

@[simp] theorem State.setF_timer (s : State) (v : Byte) : (s.setF v).timer = s.timer := rfl

@[simp] theorem State.setF_controls (s : State) (v : Byte) : (s.setF v).controls = s.controls := rfl

@[simp] theorem State.setF_ppu (s : State) (v : Byte) : (s.setF v).ppu = s.ppu := rfl

@[simp] theorem State.setF_driver (s : State) (v : Byte) : (s.setF v).driver = s.driver := rfl

@[simp] theorem State.setF_hostSide (s : State) (v : Byte) : (s.setF v).hostSide = s.hostSide := rfl

@[simp] theorem State.setF_stepCycles (s : State) (v : Byte) : (s.setF v).stepCycles = s.stepCycles := rfl

@[simp] theorem State.setF_divDraws (s : State) (v : Byte) : (s.setF v).divDraws = s.divDraws := rfl

@[simp] theorem State.setF_cpu_a (s : State) (v : Byte) : (s.setF v).cpu.a = s.cpu.a := rfl

@[simp] theorem State.setF_cpu_b (s : State) (v : Byte) : (s.setF v).cpu.b = s.cpu.b := rfl

@[simp] theorem State.setF_cpu_c (s : State) (v : Byte) : (s.setF v).cpu.c = s.cpu.c := rfl

@[simp] theorem State.setF_cpu_d (s : State) (v : Byte) : (s.setF v).cpu.d = s.cpu.d := rfl

@[simp] theorem State.setF_cpu_e (s : State) (v : Byte) : (s.setF v).cpu.e = s.cpu.e := rfl

@[simp] theorem State.setF_cpu_h (s : State) (v : Byte) : (s.setF v).cpu.h = s.cpu.h := rfl

@[simp] theorem State.setF_cpu_l (s : State) (v : Byte) : (s.setF v).cpu.l = s.cpu.l := rfl

@[simp] theorem State.setF_cpu_sp (s : State) (v : Byte) : (s.setF v).cpu.sp = s.cpu.sp := rfl

@[simp] theorem State.setF_cpu_pc (s : State) (v : Byte) : (s.setF v).cpu.pc = s.cpu.pc := rfl

@[simp] theorem State.setF_cpu_ime (s : State) (v : Byte) : (s.setF v).cpu.ime = s.cpu.ime := rfl

@[simp] theorem State.setF_cpu_halted (s : State) (v : Byte) : (s.setF v).cpu.halted = s.cpu.halted := rfl

@[simp] theorem State.setF_cpu_eiPending (s : State) (v : Byte) : (s.setF v).cpu.eiPending = s.cpu.eiPending := rfl

@[simp] theorem State.setF_cpu_f (s : State) (v : Byte) : (s.setF v).cpu.f = v &&& 0xF0#8 := rfl

@[simp] theorem State.getReg_setF (s : State) (v : Byte) (r : Reg8) :
    (s.setF v).getReg r = s.getReg r := by cases r <;> rfl

/-! ### setFlags -/

@[simp] theorem State.setFlags_params (s : State) (z n h c : Bool) : (s.setFlags z n h c).params = s.params := rfl

@[simp] theorem State.setFlags_cart (s : State) (z n h c : Bool) : (s.setFlags z n h c).cart = s.cart := rfl

@[simp] theorem State.setFlags_ram (s : State) (z n h c : Bool) : (s.setFlags z n h c).ram = s.ram := rfl

@[simp] theorem State.setFlags_timer (s : State) (z n h c : Bool) : (s.setFlags z n h c).timer = s.timer := rfl

@[simp] theorem State.setFlags_controls (s : State) (z n h c : Bool) :
    (s.setFlags z n h c).controls = s.controls := rfl

@[simp] theorem State.setFlags_ppu (s : State) (z n h c : Bool) : (s.setFlags z n h c).ppu = s.ppu := rfl

@[simp] theorem State.setFlags_driver (s : State) (z n h c : Bool) : (s.setFlags z n h c).driver = s.driver := rfl

@[simp] theorem State.setFlags_hostSide (s : State) (z n h c : Bool) :
    (s.setFlags z n h c).hostSide = s.hostSide := rfl

@[simp] theorem State.setFlags_stepCycles (s : State) (z n h c : Bool) :
    (s.setFlags z n h c).stepCycles = s.stepCycles := rfl

@[simp] theorem State.setFlags_divDraws (s : State) (z n h c : Bool) :
    (s.setFlags z n h c).divDraws = s.divDraws := rfl

@[simp] theorem State.setFlags_cpu_a (s : State) (z n h c : Bool) : (s.setFlags z n h c).cpu.a = s.cpu.a := rfl

@[simp] theorem State.setFlags_cpu_b (s : State) (z n h c : Bool) : (s.setFlags z n h c).cpu.b = s.cpu.b := rfl

@[simp] theorem State.setFlags_cpu_c (s : State) (z n h c : Bool) : (s.setFlags z n h c).cpu.c = s.cpu.c := rfl

@[simp] theorem State.setFlags_cpu_d (s : State) (z n h c : Bool) : (s.setFlags z n h c).cpu.d = s.cpu.d := rfl

@[simp] theorem State.setFlags_cpu_e (s : State) (z n h c : Bool) : (s.setFlags z n h c).cpu.e = s.cpu.e := rfl

@[simp] theorem State.setFlags_cpu_h (s : State) (z n h c : Bool) : (s.setFlags z n h c).cpu.h = s.cpu.h := rfl

@[simp] theorem State.setFlags_cpu_l (s : State) (z n h c : Bool) : (s.setFlags z n h c).cpu.l = s.cpu.l := rfl

@[simp] theorem State.setFlags_cpu_sp (s : State) (z n h c : Bool) : (s.setFlags z n h c).cpu.sp = s.cpu.sp := rfl

@[simp] theorem State.setFlags_cpu_pc (s : State) (z n h c : Bool) : (s.setFlags z n h c).cpu.pc = s.cpu.pc := rfl

@[simp] theorem State.setFlags_cpu_ime (s : State) (z n h c : Bool) : (s.setFlags z n h c).cpu.ime = s.cpu.ime := rfl

@[simp] theorem State.setFlags_cpu_halted (s : State) (z n h c : Bool) :
    (s.setFlags z n h c).cpu.halted = s.cpu.halted := rfl

@[simp] theorem State.setFlags_cpu_eiPending (s : State) (z n h c : Bool) :
    (s.setFlags z n h c).cpu.eiPending = s.cpu.eiPending := rfl

@[simp] theorem State.setFlags_cpu_f (s : State) (z n h c : Bool) :
    (s.setFlags z n h c).cpu.f = packFlags z n h c := rfl

@[simp] theorem State.getReg_setFlags (s : State) (z n h c : Bool) (r : Reg8) :
    (s.setFlags z n h c).getReg r = s.getReg r := by cases r <;> rfl

/-! ### setSp -/

@[simp] theorem State.setSp_params (s : State) (v : Word) : (s.setSp v).params = s.params := rfl

@[simp] theorem State.setSp_cart (s : State) (v : Word) : (s.setSp v).cart = s.cart := rfl

@[simp] theorem State.setSp_ram (s : State) (v : Word) : (s.setSp v).ram = s.ram := rfl

@[simp] theorem State.setSp_timer (s : State) (v : Word) : (s.setSp v).timer = s.timer := rfl

@[simp] theorem State.setSp_controls (s : State) (v : Word) : (s.setSp v).controls = s.controls := rfl

@[simp] theorem State.setSp_ppu (s : State) (v : Word) : (s.setSp v).ppu = s.ppu := rfl

@[simp] theorem State.setSp_driver (s : State) (v : Word) : (s.setSp v).driver = s.driver := rfl

@[simp] theorem State.setSp_hostSide (s : State) (v : Word) : (s.setSp v).hostSide = s.hostSide := rfl

@[simp] theorem State.setSp_stepCycles (s : State) (v : Word) : (s.setSp v).stepCycles = s.stepCycles := rfl

@[simp] theorem State.setSp_divDraws (s : State) (v : Word) : (s.setSp v).divDraws = s.divDraws := rfl

@[simp] theorem State.setSp_cpu_a (s : State) (v : Word) : (s.setSp v).cpu.a = s.cpu.a := rfl

@[simp] theorem State.setSp_cpu_f (s : State) (v : Word) : (s.setSp v).cpu.f = s.cpu.f := rfl

@[simp] theorem State.setSp_cpu_b (s : State) (v : Word) : (s.setSp v).cpu.b = s.cpu.b := rfl

@[simp] theorem State.setSp_cpu_c (s : State) (v : Word) : (s.setSp v).cpu.c = s.cpu.c := rfl

@[simp] theorem State.setSp_cpu_d (s : State) (v : Word) : (s.setSp v).cpu.d = s.cpu.d := rfl

@[simp] theorem State.setSp_cpu_e (s : State) (v : Word) : (s.setSp v).cpu.e = s.cpu.e := rfl

@[simp] theorem State.setSp_cpu_h (s : State) (v : Word) : (s.setSp v).cpu.h = s.cpu.h := rfl

@[simp] theorem State.setSp_cpu_l (s : State) (v : Word) : (s.setSp v).cpu.l = s.cpu.l := rfl

@[simp] theorem State.setSp_cpu_sp (s : State) (v : Word) : (s.setSp v).cpu.sp = v := rfl

@[simp] theorem State.setSp_cpu_pc (s : State) (v : Word) : (s.setSp v).cpu.pc = s.cpu.pc := rfl

@[simp] theorem State.setSp_cpu_ime (s : State) (v : Word) : (s.setSp v).cpu.ime = s.cpu.ime := rfl

@[simp] theorem State.setSp_cpu_halted (s : State) (v : Word) : (s.setSp v).cpu.halted = s.cpu.halted := rfl

@[simp] theorem State.setSp_cpu_eiPending (s : State) (v : Word) : (s.setSp v).cpu.eiPending = s.cpu.eiPending := rfl

@[simp] theorem State.getReg_setSp (s : State) (v : Word) (r : Reg8) :
    (s.setSp v).getReg r = s.getReg r := by cases r <;> rfl

/-! ### setPc -/

@[simp] theorem State.setPc_params (s : State) (v : Word) : (s.setPc v).params = s.params := rfl

@[simp] theorem State.setPc_cart (s : State) (v : Word) : (s.setPc v).cart = s.cart := rfl

@[simp] theorem State.setPc_ram (s : State) (v : Word) : (s.setPc v).ram = s.ram := rfl

@[simp] theorem State.setPc_timer (s : State) (v : Word) : (s.setPc v).timer = s.timer := rfl

@[simp] theorem State.setPc_controls (s : State) (v : Word) : (s.setPc v).controls = s.controls := rfl

@[simp] theorem State.setPc_ppu (s : State) (v : Word) : (s.setPc v).ppu = s.ppu := rfl

@[simp] theorem State.setPc_driver (s : State) (v : Word) : (s.setPc v).driver = s.driver := rfl

@[simp] theorem State.setPc_hostSide (s : State) (v : Word) : (s.setPc v).hostSide = s.hostSide := rfl

@[simp] theorem State.setPc_stepCycles (s : State) (v : Word) : (s.setPc v).stepCycles = s.stepCycles := rfl

@[simp] theorem State.setPc_divDraws (s : State) (v : Word) : (s.setPc v).divDraws = s.divDraws := rfl

@[simp] theorem State.setPc_cpu_a (s : State) (v : Word) : (s.setPc v).cpu.a = s.cpu.a := rfl

@[simp] theorem State.setPc_cpu_f (s : State) (v : Word) : (s.setPc v).cpu.f = s.cpu.f := rfl

@[simp] theorem State.setPc_cpu_b (s : State) (v : Word) : (s.setPc v).cpu.b = s.cpu.b := rfl

@[simp] theorem State.setPc_cpu_c (s : State) (v : Word) : (s.setPc v).cpu.c = s.cpu.c := rfl

@[simp] theorem State.setPc_cpu_d (s : State) (v : Word) : (s.setPc v).cpu.d = s.cpu.d := rfl

@[simp] theorem State.setPc_cpu_e (s : State) (v : Word) : (s.setPc v).cpu.e = s.cpu.e := rfl

@[simp] theorem State.setPc_cpu_h (s : State) (v : Word) : (s.setPc v).cpu.h = s.cpu.h := rfl

@[simp] theorem State.setPc_cpu_l (s : State) (v : Word) : (s.setPc v).cpu.l = s.cpu.l := rfl

@[simp] theorem State.setPc_cpu_sp (s : State) (v : Word) : (s.setPc v).cpu.sp = s.cpu.sp := rfl

@[simp] theorem State.setPc_cpu_pc (s : State) (v : Word) : (s.setPc v).cpu.pc = v := rfl

@[simp] theorem State.setPc_cpu_ime (s : State) (v : Word) : (s.setPc v).cpu.ime = s.cpu.ime := rfl

@[simp] theorem State.setPc_cpu_halted (s : State) (v : Word) : (s.setPc v).cpu.halted = s.cpu.halted := rfl

@[simp] theorem State.setPc_cpu_eiPending (s : State) (v : Word) : (s.setPc v).cpu.eiPending = s.cpu.eiPending := rfl

@[simp] theorem State.getReg_setPc (s : State) (v : Word) (r : Reg8) :
    (s.setPc v).getReg r = s.getReg r := by cases r <;> rfl

/-! ### setPair -/

@[simp] theorem State.setPair_params (s : State) (p : Pair) (v : Word) :
    (s.setPair p v).params = s.params := by cases p <;> rfl

@[simp] theorem State.setPair_cart (s : State) (p : Pair) (v : Word) :
    (s.setPair p v).cart = s.cart := by cases p <;> rfl

@[simp] theorem State.setPair_ram (s : State) (p : Pair) (v : Word) : (s.setPair p v).ram = s.ram := by cases p <;> rfl

@[simp] theorem State.setPair_timer (s : State) (p : Pair) (v : Word) :
    (s.setPair p v).timer = s.timer := by cases p <;> rfl

@[simp] theorem State.setPair_controls (s : State) (p : Pair) (v : Word) :
    (s.setPair p v).controls = s.controls := by cases p <;> rfl

@[simp] theorem State.setPair_ppu (s : State) (p : Pair) (v : Word) : (s.setPair p v).ppu = s.ppu := by cases p <;> rfl

@[simp] theorem State.setPair_driver (s : State) (p : Pair) (v : Word) :
    (s.setPair p v).driver = s.driver := by cases p <;> rfl

@[simp] theorem State.setPair_hostSide (s : State) (p : Pair) (v : Word) :
    (s.setPair p v).hostSide = s.hostSide := by cases p <;> rfl

@[simp] theorem State.setPair_stepCycles (s : State) (p : Pair) (v : Word) :
    (s.setPair p v).stepCycles = s.stepCycles := by cases p <;> rfl

@[simp] theorem State.setPair_divDraws (s : State) (p : Pair) (v : Word) :
    (s.setPair p v).divDraws = s.divDraws := by cases p <;> rfl

@[simp] theorem State.setPair_cpu_pc (s : State) (p : Pair) (v : Word) :
    (s.setPair p v).cpu.pc = s.cpu.pc := by cases p <;> rfl

@[simp] theorem State.setPair_cpu_ime (s : State) (p : Pair) (v : Word) :
    (s.setPair p v).cpu.ime = s.cpu.ime := by cases p <;> rfl

@[simp] theorem State.setPair_cpu_halted (s : State) (p : Pair) (v : Word) :
    (s.setPair p v).cpu.halted = s.cpu.halted := by cases p <;> rfl

@[simp] theorem State.setPair_cpu_eiPending (s : State) (p : Pair) (v : Word) :
    (s.setPair p v).cpu.eiPending = s.cpu.eiPending := by cases p <;> rfl

theorem cat_toNat (h l : Byte) : (cat h l).toNat = h.toNat * 256 + l.toNat := by
  rw [cat, BitVec.toNat_append, ← Nat.shiftLeft_add_eq_or_of_lt l.isLt, Nat.shiftLeft_eq]

theorem hiByte_toNat (v : Word) : (hiByte v).toNat = v.toNat / 256 := by
  have := v.isLt
  simp only [hiByte, BitVec.toNat_setWidth, BitVec.toNat_ushiftRight, Nat.shiftRight_eq_div_pow]
  omega

theorem loByte_toNat (v : Word) : (loByte v).toNat = v.toNat % 256 := by
  simp only [loByte, BitVec.toNat_setWidth, Nat.reducePow]

theorem cat_hiByte_loByte (v : Word) : cat (hiByte v) (loByte v) = v := by
  apply BitVec.eq_of_toNat_eq
  rw [cat_toNat, hiByte_toNat, loByte_toNat]
  omega

theorem hiByte_cat (h l : Byte) : hiByte (cat h l) = h := by
  have := l.isLt
  apply BitVec.eq_of_toNat_eq
  rw [hiByte_toNat, cat_toNat]
  omega

theorem loByte_cat (h l : Byte) : loByte (cat h l) = l := by
  have := l.isLt
  apply BitVec.eq_of_toNat_eq
  rw [loByte_toNat, cat_toNat]
  omega

/-- A pair other than AF reads back as written (R31). -/
theorem State.getPair_setPair (s : State) (p : Pair) (v : Word) (h : p ≠ .af) : (s.setPair p v).getPair p = v := by
  cases p <;> first | exact absurd rfl h | exact cat_hiByte_loByte v | rfl

/-! ### setMem -/

@[simp] theorem State.setMem_params (s : State) (a : Nat) (v : Byte) : (s.setMem a v).params = s.params := rfl

@[simp] theorem State.setMem_cpu (s : State) (a : Nat) (v : Byte) : (s.setMem a v).cpu = s.cpu := rfl

@[simp] theorem State.setMem_cart (s : State) (a : Nat) (v : Byte) : (s.setMem a v).cart = s.cart := rfl

@[simp] theorem State.setMem_timer (s : State) (a : Nat) (v : Byte) : (s.setMem a v).timer = s.timer := rfl

@[simp] theorem State.setMem_controls (s : State) (a : Nat) (v : Byte) : (s.setMem a v).controls = s.controls := rfl

@[simp] theorem State.setMem_ppu (s : State) (a : Nat) (v : Byte) : (s.setMem a v).ppu = s.ppu := rfl

@[simp] theorem State.setMem_driver (s : State) (a : Nat) (v : Byte) : (s.setMem a v).driver = s.driver := rfl

@[simp] theorem State.setMem_hostSide (s : State) (a : Nat) (v : Byte) : (s.setMem a v).hostSide = s.hostSide := rfl

@[simp] theorem State.setMem_stepCycles (s : State) (a : Nat) (v : Byte) :
    (s.setMem a v).stepCycles = s.stepCycles := rfl

@[simp] theorem State.setMem_divDraws (s : State) (a : Nat) (v : Byte) : (s.setMem a v).divDraws = s.divDraws := rfl

@[simp] theorem State.getReg_setMem (s : State) (a : Nat) (v : Byte) (r : Reg8) :
    (s.setMem a v).getReg r = s.getReg r := by cases r <;> simp [State.getReg]

@[simp] theorem State.getPair_setMem (s : State) (a : Nat) (v : Byte) (p : Pair) :
    (s.setMem a v).getPair p = s.getPair p := by cases p <;> simp [State.getPair]

@[simp] theorem State.hl_setMem (s : State) (a : Nat) (v : Byte) : (s.setMem a v).hl = s.hl := by simp [State.hl]

/-! ### requestInterrupt -/

@[simp] theorem State.requestInterrupt_params (s : State) (i : Nat) : (s.requestInterrupt i).params = s.params := rfl

@[simp] theorem State.requestInterrupt_cpu (s : State) (i : Nat) : (s.requestInterrupt i).cpu = s.cpu := rfl

@[simp] theorem State.requestInterrupt_cart (s : State) (i : Nat) : (s.requestInterrupt i).cart = s.cart := rfl

@[simp] theorem State.requestInterrupt_timer (s : State) (i : Nat) : (s.requestInterrupt i).timer = s.timer := rfl

@[simp] theorem State.requestInterrupt_controls (s : State) (i : Nat) :
    (s.requestInterrupt i).controls = s.controls := rfl

@[simp] theorem State.requestInterrupt_ppu (s : State) (i : Nat) : (s.requestInterrupt i).ppu = s.ppu := rfl

@[simp] theorem State.requestInterrupt_driver (s : State) (i : Nat) : (s.requestInterrupt i).driver = s.driver := rfl

@[simp] theorem State.requestInterrupt_hostSide (s : State) (i : Nat) :
    (s.requestInterrupt i).hostSide = s.hostSide := rfl

@[simp] theorem State.requestInterrupt_stepCycles (s : State) (i : Nat) :
    (s.requestInterrupt i).stepCycles = s.stepCycles := rfl

@[simp] theorem State.requestInterrupt_divDraws (s : State) (i : Nat) :
    (s.requestInterrupt i).divDraws = s.divDraws := rfl

/-! ### serialPrint -/

@[simp] theorem State.serialPrint_params (s : State) (b : Byte) : (s.serialPrint b).params = s.params := rfl

@[simp] theorem State.serialPrint_cpu (s : State) (b : Byte) : (s.serialPrint b).cpu = s.cpu := rfl

@[simp] theorem State.serialPrint_cart (s : State) (b : Byte) : (s.serialPrint b).cart = s.cart := rfl

@[simp] theorem State.serialPrint_ram (s : State) (b : Byte) : (s.serialPrint b).ram = s.ram := rfl

@[simp] theorem State.serialPrint_timer (s : State) (b : Byte) : (s.serialPrint b).timer = s.timer := rfl

@[simp] theorem State.serialPrint_controls (s : State) (b : Byte) : (s.serialPrint b).controls = s.controls := rfl

@[simp] theorem State.serialPrint_ppu (s : State) (b : Byte) : (s.serialPrint b).ppu = s.ppu := rfl

@[simp] theorem State.serialPrint_driver (s : State) (b : Byte) : (s.serialPrint b).driver = s.driver := rfl

@[simp] theorem State.serialPrint_stepCycles (s : State) (b : Byte) :
    (s.serialPrint b).stepCycles = s.stepCycles := rfl

@[simp] theorem State.serialPrint_divDraws (s : State) (b : Byte) : (s.serialPrint b).divDraws = s.divDraws := rfl

@[simp] theorem State.getReg_serialPrint (s : State) (b : Byte) (r : Reg8) :
    (s.serialPrint b).getReg r = s.getReg r := by cases r <;> simp [State.getReg]

@[simp] theorem State.getPair_serialPrint (s : State) (b : Byte) (p : Pair) :
    (s.serialPrint b).getPair p = s.getPair p := by cases p <;> simp [State.getPair]

@[simp] theorem State.hl_serialPrint (s : State) (b : Byte) : (s.serialPrint b).hl = s.hl := by simp [State.hl]

/-! ### addCycles -/

@[simp] theorem State.addCycles_params (s : State) (n : Nat) : (s.addCycles n).params = s.params := rfl

@[simp] theorem State.addCycles_cpu (s : State) (n : Nat) : (s.addCycles n).cpu = s.cpu := rfl

@[simp] theorem State.addCycles_cart (s : State) (n : Nat) : (s.addCycles n).cart = s.cart := rfl

@[simp] theorem State.addCycles_ram (s : State) (n : Nat) : (s.addCycles n).ram = s.ram := rfl

@[simp] theorem State.addCycles_timer (s : State) (n : Nat) : (s.addCycles n).timer = s.timer := rfl

@[simp] theorem State.addCycles_controls (s : State) (n : Nat) : (s.addCycles n).controls = s.controls := rfl

@[simp] theorem State.addCycles_ppu (s : State) (n : Nat) : (s.addCycles n).ppu = s.ppu := rfl

@[simp] theorem State.addCycles_driver (s : State) (n : Nat) : (s.addCycles n).driver = s.driver := rfl

@[simp] theorem State.addCycles_hostSide (s : State) (n : Nat) : (s.addCycles n).hostSide = s.hostSide := rfl

@[simp] theorem State.addCycles_divDraws (s : State) (n : Nat) : (s.addCycles n).divDraws = s.divDraws := rfl

@[simp] theorem State.addCycles_stepCycles (s : State) (n : Nat) : (s.addCycles n).stepCycles = s.stepCycles + n := rfl

@[simp] theorem State.getReg_addCycles (s : State) (n : Nat) (r : Reg8) :
    (s.addCycles n).getReg r = s.getReg r := by cases r <;> simp [State.getReg]

@[simp] theorem State.getPair_addCycles (s : State) (n : Nat) (p : Pair) :
    (s.addCycles n).getPair p = s.getPair p := by cases p <;> simp [State.getPair]

@[simp] theorem State.hl_addCycles (s : State) (n : Nat) : (s.addCycles n).hl = s.hl := by simp [State.hl]

/-! ### noteRead -/

@[simp] theorem State.noteRead_params (s : State) (a : Word) :
    (s.noteRead a).params = s.params := by
  unfold State.noteRead; split <;> [rfl; (split <;> rfl)]

@[simp] theorem State.noteRead_cpu (s : State) (a : Word) :
    (s.noteRead a).cpu = s.cpu := by
  unfold State.noteRead; split <;> [rfl; (split <;> rfl)]

@[simp] theorem State.noteRead_cart (s : State) (a : Word) :
    (s.noteRead a).cart = s.cart := by
  unfold State.noteRead; split <;> [rfl; (split <;> rfl)]

@[simp] theorem State.noteRead_ram (s : State) (a : Word) :
    (s.noteRead a).ram = s.ram := by
  unfold State.noteRead; split <;> [rfl; (split <;> rfl)]

@[simp] theorem State.noteRead_timer (s : State) (a : Word) :
    (s.noteRead a).timer = s.timer := by
  unfold State.noteRead; split <;> [rfl; (split <;> rfl)]

@[simp] theorem State.noteRead_controls (s : State) (a : Word) :
    (s.noteRead a).controls = s.controls := by
  unfold State.noteRead; split <;> [rfl; (split <;> rfl)]

@[simp] theorem State.noteRead_ppu (s : State) (a : Word) :
    (s.noteRead a).ppu = s.ppu := by
  unfold State.noteRead; split <;> [rfl; (split <;> rfl)]

@[simp] theorem State.noteRead_driver (s : State) (a : Word) :
    (s.noteRead a).driver = s.driver := by
  unfold State.noteRead; split <;> [rfl; (split <;> rfl)]

@[simp] theorem State.noteRead_hostSide (s : State) (a : Word) :
    (s.noteRead a).hostSide = s.hostSide := by
  unfold State.noteRead; split <;> [rfl; (split <;> rfl)]

@[simp] theorem State.noteRead_stepCycles (s : State) (a : Word) :
    (s.noteRead a).stepCycles = s.stepCycles := by
  unfold State.noteRead; split <;> [rfl; (split <;> rfl)]

@[simp] theorem State.getReg_noteRead (s : State) (a : Word) (r : Reg8) :
    (s.noteRead a).getReg r = s.getReg r := by cases r <;> simp [State.getReg]

@[simp] theorem State.getPair_noteRead (s : State) (a : Word) (p : Pair) :
    (s.noteRead a).getPair p = s.getPair p := by cases p <;> simp [State.getPair]

@[simp] theorem State.hl_noteRead (s : State) (a : Word) : (s.noteRead a).hl = s.hl := by simp [State.hl]

/-! ### putMode -/

@[simp] theorem State.putMode_params (s : State) (m : BitVec 2) : (s.putMode m).params = s.params := rfl

@[simp] theorem State.putMode_cpu (s : State) (m : BitVec 2) : (s.putMode m).cpu = s.cpu := rfl

@[simp] theorem State.putMode_cart (s : State) (m : BitVec 2) : (s.putMode m).cart = s.cart := rfl

@[simp] theorem State.putMode_timer (s : State) (m : BitVec 2) : (s.putMode m).timer = s.timer := rfl

@[simp] theorem State.putMode_controls (s : State) (m : BitVec 2) : (s.putMode m).controls = s.controls := rfl

@[simp] theorem State.putMode_driver (s : State) (m : BitVec 2) : (s.putMode m).driver = s.driver := rfl

@[simp] theorem State.putMode_hostSide (s : State) (m : BitVec 2) : (s.putMode m).hostSide = s.hostSide := rfl

@[simp] theorem State.putMode_stepCycles (s : State) (m : BitVec 2) : (s.putMode m).stepCycles = s.stepCycles := rfl

@[simp] theorem State.putMode_divDraws (s : State) (m : BitVec 2) : (s.putMode m).divDraws = s.divDraws := rfl

/-! ### takeSnapshot -/

@[simp] theorem State.takeSnapshot_params (s : State) : s.takeSnapshot.params = s.params := rfl

@[simp] theorem State.takeSnapshot_cpu (s : State) : s.takeSnapshot.cpu = s.cpu := rfl

@[simp] theorem State.takeSnapshot_cart (s : State) : s.takeSnapshot.cart = s.cart := rfl

@[simp] theorem State.takeSnapshot_ram (s : State) : s.takeSnapshot.ram = s.ram := rfl

@[simp] theorem State.takeSnapshot_timer (s : State) : s.takeSnapshot.timer = s.timer := rfl

@[simp] theorem State.takeSnapshot_controls (s : State) : s.takeSnapshot.controls = s.controls := rfl

@[simp] theorem State.takeSnapshot_driver (s : State) : s.takeSnapshot.driver = s.driver := rfl

@[simp] theorem State.takeSnapshot_hostSide (s : State) : s.takeSnapshot.hostSide = s.hostSide := rfl

@[simp] theorem State.takeSnapshot_stepCycles (s : State) : s.takeSnapshot.stepCycles = s.stepCycles := rfl

@[simp] theorem State.takeSnapshot_divDraws (s : State) : s.takeSnapshot.divDraws = s.divDraws := rfl

/-! ### renderLine -/

@[simp] theorem State.renderLine_params (s : State) (l : Nat) : (s.renderLine l).params = s.params := rfl

@[simp] theorem State.renderLine_cpu (s : State) (l : Nat) : (s.renderLine l).cpu = s.cpu := rfl

@[simp] theorem State.renderLine_cart (s : State) (l : Nat) : (s.renderLine l).cart = s.cart := rfl

@[simp] theorem State.renderLine_ram (s : State) (l : Nat) : (s.renderLine l).ram = s.ram := rfl

@[simp] theorem State.renderLine_timer (s : State) (l : Nat) : (s.renderLine l).timer = s.timer := rfl

@[simp] theorem State.renderLine_controls (s : State) (l : Nat) : (s.renderLine l).controls = s.controls := rfl

@[simp] theorem State.renderLine_driver (s : State) (l : Nat) : (s.renderLine l).driver = s.driver := rfl

@[simp] theorem State.renderLine_hostSide (s : State) (l : Nat) : (s.renderLine l).hostSide = s.hostSide := rfl

@[simp] theorem State.renderLine_stepCycles (s : State) (l : Nat) : (s.renderLine l).stepCycles = s.stepCycles := rfl

@[simp] theorem State.renderLine_divDraws (s : State) (l : Nat) : (s.renderLine l).divDraws = s.divDraws := rfl

/-! ### startBudget -/

@[simp] theorem State.startBudget_params (s : State) (p : Phase) (b : Int) :
    (s.startBudget p b).params = s.params := rfl

@[simp] theorem State.startBudget_cpu (s : State) (p : Phase) (b : Int) : (s.startBudget p b).cpu = s.cpu := rfl

@[simp] theorem State.startBudget_cart (s : State) (p : Phase) (b : Int) : (s.startBudget p b).cart = s.cart := rfl

@[simp] theorem State.startBudget_ram (s : State) (p : Phase) (b : Int) : (s.startBudget p b).ram = s.ram := rfl

@[simp] theorem State.startBudget_timer (s : State) (p : Phase) (b : Int) : (s.startBudget p b).timer = s.timer := rfl

@[simp] theorem State.startBudget_controls (s : State) (p : Phase) (b : Int) :
    (s.startBudget p b).controls = s.controls := rfl

@[simp] theorem State.startBudget_ppu (s : State) (p : Phase) (b : Int) : (s.startBudget p b).ppu = s.ppu := rfl

@[simp] theorem State.startBudget_hostSide (s : State) (p : Phase) (b : Int) :
    (s.startBudget p b).hostSide = s.hostSide := rfl

@[simp] theorem State.startBudget_stepCycles (s : State) (p : Phase) (b : Int) :
    (s.startBudget p b).stepCycles = s.stepCycles := rfl

@[simp] theorem State.startBudget_divDraws (s : State) (p : Phase) (b : Int) :
    (s.startBudget p b).divDraws = s.divDraws := rfl

@[simp] theorem State.startBudget_phase (s : State) (p : Phase) (b : Int) : (s.startBudget p b).driver.phase = p := rfl

@[simp] theorem State.startBudget_cycleBalance (s : State) (p : Phase) (b : Int) :
    (s.startBudget p b).driver.cycleBalance = s.driver.cycleBalance + b := rfl

@[simp] theorem State.startBudget_frame (s : State) (p : Phase) (b : Int) :
    (s.startBudget p b).driver.frame = s.driver.frame := rfl

/-! ### copyFrame -/

@[simp] theorem State.copyFrame_params (s : State) : s.copyFrame.params = s.params := rfl

@[simp] theorem State.copyFrame_cpu (s : State) : s.copyFrame.cpu = s.cpu := rfl

@[simp] theorem State.copyFrame_cart (s : State) : s.copyFrame.cart = s.cart := rfl

@[simp] theorem State.copyFrame_ram (s : State) : s.copyFrame.ram = s.ram := rfl

@[simp] theorem State.copyFrame_timer (s : State) : s.copyFrame.timer = s.timer := rfl

@[simp] theorem State.copyFrame_controls (s : State) : s.copyFrame.controls = s.controls := rfl

@[simp] theorem State.copyFrame_ppu (s : State) : s.copyFrame.ppu = s.ppu := rfl

@[simp] theorem State.copyFrame_hostSide (s : State) : s.copyFrame.hostSide = s.hostSide := rfl

@[simp] theorem State.copyFrame_stepCycles (s : State) : s.copyFrame.stepCycles = s.stepCycles := rfl

@[simp] theorem State.copyFrame_divDraws (s : State) : s.copyFrame.divDraws = s.divDraws := rfl

/-! ### returnFrame -/

@[simp] theorem State.returnFrame_params (s : State) : s.returnFrame.params = s.params := rfl

@[simp] theorem State.returnFrame_cpu (s : State) : s.returnFrame.cpu = s.cpu := rfl

@[simp] theorem State.returnFrame_cart (s : State) : s.returnFrame.cart = s.cart := rfl

@[simp] theorem State.returnFrame_ram (s : State) : s.returnFrame.ram = s.ram := rfl

@[simp] theorem State.returnFrame_timer (s : State) : s.returnFrame.timer = s.timer := rfl

@[simp] theorem State.returnFrame_controls (s : State) : s.returnFrame.controls = s.controls := rfl

@[simp] theorem State.returnFrame_ppu (s : State) : s.returnFrame.ppu = s.ppu := rfl

@[simp] theorem State.returnFrame_hostSide (s : State) : s.returnFrame.hostSide = s.hostSide := rfl

@[simp] theorem State.returnFrame_stepCycles (s : State) : s.returnFrame.stepCycles = s.stepCycles := rfl

@[simp] theorem State.returnFrame_divDraws (s : State) : s.returnFrame.divDraws = s.divDraws := rfl

/-! ### tickDiv -/

@[simp] theorem State.tickDiv_params (s : State) (c : Nat) : (s.tickDiv c).params = s.params := rfl

@[simp] theorem State.tickDiv_cpu (s : State) (c : Nat) : (s.tickDiv c).cpu = s.cpu := rfl

@[simp] theorem State.tickDiv_cart (s : State) (c : Nat) : (s.tickDiv c).cart = s.cart := rfl

@[simp] theorem State.tickDiv_ram (s : State) (c : Nat) : (s.tickDiv c).ram = s.ram := rfl

@[simp] theorem State.tickDiv_controls (s : State) (c : Nat) : (s.tickDiv c).controls = s.controls := rfl

@[simp] theorem State.tickDiv_ppu (s : State) (c : Nat) : (s.tickDiv c).ppu = s.ppu := rfl

@[simp] theorem State.tickDiv_driver (s : State) (c : Nat) : (s.tickDiv c).driver = s.driver := rfl

@[simp] theorem State.tickDiv_hostSide (s : State) (c : Nat) : (s.tickDiv c).hostSide = s.hostSide := rfl

@[simp] theorem State.tickDiv_stepCycles (s : State) (c : Nat) : (s.tickDiv c).stepCycles = s.stepCycles := rfl

@[simp] theorem State.tickDiv_divDraws (s : State) (c : Nat) : (s.tickDiv c).divDraws = s.divDraws := rfl

end Sys2Proof.Machine
end

