-- ==== Sys2Proof/Laws/Ops.lean ====
section
/-! SUPPORT. What each shared operation over memory can do, said once: the fields it may change, and the laws of the
reads and the stack that callers cite. -/

namespace Sys2Proof.Machine

/-! ### Reads -/

/-- Without `DIV_READ = draw`, or away from 0xFF04, a read changes nothing (R105). -/
theorem State.noteRead_eq (s : State) (a : Word) (h : s.params.divRead = .counter ∨ a ≠ 0xFF04#16) :
    s.noteRead a = s := by
  unfold State.noteRead
  split
  · rfl
  · next hd =>
    rcases h with h | h
    · rw [h] at hd; cases hd
    · rw [if_neg]
      intro e
      exact h (BitVec.eq_of_toNat_eq (by simpa using e))

@[simp] theorem State.readByte_fst (s : State) (a : Word) : (s.readByte a).1 = s.memRead a := rfl

@[simp] theorem State.readByte_snd (s : State) (a : Word) : (s.readByte a).2 = s.noteRead a := rfl

theorem State.memRead_div (s : State) : s.memRead 0xFF04#16 = s.divRead := rfl

/-- What a read gives depends on these parts of the state only. -/
theorem State.memRead_congr {s t : State} (a : Word) (hp : t.params = s.params) (hc : t.cart = s.cart)
    (hr : t.ram = s.ram) (ht : t.timer = s.timer) (hk : t.controls = s.controls)
    (hd : t.divDraws = s.divDraws ∨ s.params.divRead = .counter ∨ a ≠ 0xFF04#16) : t.memRead a = s.memRead a := by
  obtain ⟨p, _, c, r, tm, k, _, _, _, _, d⟩ := t
  obtain ⟨p', _, c', r', tm', k', _, _, _, _, d'⟩ := s
  subst hp hc hr ht hk
  by_cases e : a = 0xFF04#16
  · subst e
    rw [State.memRead_div, State.memRead_div]
    simp only [State.divRead] at hd ⊢
    split
    · rfl
    · next h =>
      rcases hd with hd | hd | hd
      · rw [hd]
      · rw [hd] at h; cases h
      · exact absurd rfl hd
  · have hn : ¬ a.toNat = addrDiv := fun h => e (BitVec.eq_of_toNat_eq (by simpa using h))
    exact ite_congr rfl (fun _ => rfl) fun _ => ite_congr rfl (fun _ => rfl) fun _ => ite_congr rfl (fun _ => rfl) fun _ =>
      ite_congr rfl (fun _ => rfl) fun _ => ite_congr rfl (fun _ => rfl) fun _ =>
        ite_congr rfl (fun h => absurd h hn) fun _ => rfl

/-! ### OAM DMA and MemWrite -/

/-- OAM DMA changes memory and, with `DIV_READ = draw`, the count of draws; nothing else (R130). -/
theorem State.oamDmaFrom_frame (v : Byte) (left i : Nat) (s : State) :
    ∃ ram draws, State.oamDmaFrom v left i s = { s with ram := ram, divDraws := draws } := by
  induction left generalizing i s with
  | zero => exact ⟨s.ram, s.divDraws, rfl⟩
  | succ left ih =>
    obtain ⟨ram, draws, h⟩ := ih (i + 1) ((s.noteRead (cat v 0 + BitVec.ofNat 16 i)).setMem (0xFE00 + i)
      (s.memRead (cat v 0 + BitVec.ofNat 16 i)))
    refine ⟨ram, draws, ?_⟩
    have : State.oamDmaFrom v (left + 1) i s = State.oamDmaFrom v left (i + 1)
      ((s.noteRead (cat v 0 + BitVec.ofNat 16 i)).setMem (0xFE00 + i) (s.memRead (cat v 0 + BitVec.ofNat 16 i))) := rfl
    rw [this, h]
    simp [State.setMem]

theorem State.oamDma_frame (s : State) (v : Byte) :
    ∃ ram draws, s.oamDma v = { s with ram := ram, divDraws := draws } := State.oamDmaFrom_frame v 160 0 s

theorem State.advancePaletteIndex_frame (s : State) (r : Nat) :
    ∃ ram, s.advancePaletteIndex r = { s with ram := ram } := by
  simp only [State.advancePaletteIndex]
  split
  · exact ⟨_, rfl⟩
  · exact ⟨s.ram, rfl⟩

/-- Everything a write can change (R106, R107): the bank registers, memory, the divider, the serial output, and through
OAM DMA the count of draws. -/
def State.WriteFrame (s t : State) : Prop :=
  ∃ lo hi md ram div acc out draws, t =
    { s with
      cart := { s.cart with romBankLo := lo, bankHi := hi, bankMode := md }
      ram := ram
      timer := { s.timer with div := div, divAcc := acc }
      hostSide := { s.hostSide with serialOut := out }
      divDraws := draws }

theorem State.WriteFrame.ofRam (s : State) (ram : Ram) (draws : Nat) :
    s.WriteFrame { s with ram := ram, divDraws := draws } :=
  ⟨s.cart.romBankLo, s.cart.bankHi, s.cart.bankMode, ram, s.timer.div, s.timer.divAcc, s.hostSide.serialOut, draws, rfl⟩

theorem State.bankWrite_frame (s : State) (n : Nat) (v : Byte) : ∃ lo hi md, s.bankWrite n v =
    { s with cart := { s.cart with romBankLo := lo, bankHi := hi, bankMode := md } } := by
  unfold State.bankWrite
  split
  · exact ⟨s.cart.romBankLo, s.cart.bankHi, s.cart.bankMode, rfl⟩
  · split
    · exact ⟨_, s.cart.bankHi, s.cart.bankMode, rfl⟩
    · split
      · exact ⟨s.cart.romBankLo, _, s.cart.bankMode, rfl⟩
      · exact ⟨s.cart.romBankLo, s.cart.bankHi, _, rfl⟩

theorem State.bgPaletteWrite_frame (s : State) (v : Byte) : ∃ ram, s.bgPaletteWrite v = { s with ram := ram } := by
  obtain ⟨ram, h⟩ := State.advancePaletteIndex_frame { s with ram := { s.ram with
    bgPal := s.ram.bgPal.write ((s.mem addrBcps).toNat % 64) v } } addrBcps
  exact ⟨ram, by rw [State.bgPaletteWrite, h]⟩

theorem State.objPaletteWrite_frame (s : State) (v : Byte) : ∃ ram, s.objPaletteWrite v = { s with ram := ram } := by
  obtain ⟨ram, h⟩ := State.advancePaletteIndex_frame { s with ram := { s.ram with
    objPal := s.ram.objPal.write ((s.mem addrOcps).toNat % 64) v } } addrOcps
  exact ⟨ram, by rw [State.objPaletteWrite, h]⟩

theorem State.memWrite_frame (s : State) (a : Word) (v : Byte) : s.WriteFrame (s.memWrite a v) := by
  unfold State.memWrite
  dsimp only
  split
  · obtain ⟨lo, hi, md, h⟩ := s.bankWrite_frame a.toNat v
    rw [h]
    exact ⟨lo, hi, md, s.ram, s.timer.div, s.timer.divAcc, s.hostSide.serialOut, s.divDraws, rfl⟩
  split
  · exact State.WriteFrame.ofRam s _ s.divDraws
  split
  · exact State.WriteFrame.ofRam s _ s.divDraws
  split
  · exact ⟨s.cart.romBankLo, s.cart.bankHi, s.cart.bankMode, _, s.timer.div, s.timer.divAcc, _, s.divDraws, rfl⟩
  split
  · exact ⟨s.cart.romBankLo, s.cart.bankHi, s.cart.bankMode, s.ram, _, _, s.hostSide.serialOut, s.divDraws, rfl⟩
  split
  · exact State.WriteFrame.ofRam s _ s.divDraws
  split
  · exact State.WriteFrame.ofRam s s.ram s.divDraws
  split
  · obtain ⟨ram, draws, h⟩ := State.oamDma_frame (s.setMem a.toNat v) v
    rw [h]
    exact State.WriteFrame.ofRam s ram draws
  split
  · exact State.WriteFrame.ofRam s _ s.divDraws
  split
  · obtain ⟨ram, h⟩ := s.bgPaletteWrite_frame v
    rw [h]
    exact State.WriteFrame.ofRam s ram s.divDraws
  split
  · obtain ⟨ram, h⟩ := s.objPaletteWrite_frame v
    rw [h]
    exact State.WriteFrame.ofRam s ram s.divDraws
  · exact State.WriteFrame.ofRam s _ s.divDraws

section
variable (s : State) (a : Word) (v : Byte)

@[simp] theorem State.memWrite_params : (s.memWrite a v).params = s.params := by
  obtain ⟨_, _, _, _, _, _, _, _, h⟩ := s.memWrite_frame a v; rw [h]

@[simp] theorem State.memWrite_cpu : (s.memWrite a v).cpu = s.cpu := by
  obtain ⟨_, _, _, _, _, _, _, _, h⟩ := s.memWrite_frame a v; rw [h]

@[simp] theorem State.memWrite_rom : (s.memWrite a v).cart.rom = s.cart.rom := by
  obtain ⟨_, _, _, _, _, _, _, _, h⟩ := s.memWrite_frame a v; rw [h]

@[simp] theorem State.memWrite_timaAcc : (s.memWrite a v).timer.timaAcc = s.timer.timaAcc := by
  obtain ⟨_, _, _, _, _, _, _, _, h⟩ := s.memWrite_frame a v; rw [h]

@[simp] theorem State.memWrite_controls : (s.memWrite a v).controls = s.controls := by
  obtain ⟨_, _, _, _, _, _, _, _, h⟩ := s.memWrite_frame a v; rw [h]

@[simp] theorem State.memWrite_ppu : (s.memWrite a v).ppu = s.ppu := by
  obtain ⟨_, _, _, _, _, _, _, _, h⟩ := s.memWrite_frame a v; rw [h]

@[simp] theorem State.memWrite_driver : (s.memWrite a v).driver = s.driver := by
  obtain ⟨_, _, _, _, _, _, _, _, h⟩ := s.memWrite_frame a v; rw [h]

@[simp] theorem State.memWrite_schedule : (s.memWrite a v).hostSide.schedule = s.hostSide.schedule := by
  obtain ⟨_, _, _, _, _, _, _, _, h⟩ := s.memWrite_frame a v; rw [h]

@[simp] theorem State.memWrite_romPath : (s.memWrite a v).hostSide.romPath = s.hostSide.romPath := by
  obtain ⟨_, _, _, _, _, _, _, _, h⟩ := s.memWrite_frame a v; rw [h]

@[simp] theorem State.memWrite_savFiles : (s.memWrite a v).hostSide.savFiles = s.hostSide.savFiles := by
  obtain ⟨_, _, _, _, _, _, _, _, h⟩ := s.memWrite_frame a v; rw [h]

@[simp] theorem State.memWrite_loadReport : (s.memWrite a v).hostSide.loadReport = s.hostSide.loadReport := by
  obtain ⟨_, _, _, _, _, _, _, _, h⟩ := s.memWrite_frame a v; rw [h]

@[simp] theorem State.memWrite_stepCycles : (s.memWrite a v).stepCycles = s.stepCycles := by
  obtain ⟨_, _, _, _, _, _, _, _, h⟩ := s.memWrite_frame a v; rw [h]

@[simp] theorem State.getReg_memWrite (r : Reg8) : (s.memWrite a v).getReg r = s.getReg r := by
  cases r <;> simp [State.getReg]

@[simp] theorem State.getPair_memWrite (p : Pair) : (s.memWrite a v).getPair p = s.getPair p := by
  cases p <;> simp [State.getPair]

@[simp] theorem State.hl_memWrite : (s.memWrite a v).hl = s.hl := by simp [State.hl]

end

/-! ### The CPU registers and memory do not meet -/

theorem State.noteRead_withCpu (s : State) (c : Cpu) (a : Word) :
    State.noteRead { s with cpu := c } a = { s.noteRead a with cpu := c } := by
  unfold State.noteRead
  dsimp only
  split
  · rfl
  · split <;> rfl

theorem State.memRead_withCpu (s : State) (c : Cpu) (a : Word) : State.memRead { s with cpu := c } a = s.memRead a :=
  State.memRead_congr a rfl rfl rfl rfl rfl (Or.inl rfl)

theorem State.oamDmaFrom_withCpu (v : Byte) (left i : Nat) (s : State) (c : Cpu) :
    State.oamDmaFrom v left i { s with cpu := c } = { State.oamDmaFrom v left i s with cpu := c } := by
  induction left generalizing i s with
  | zero => rfl
  | succ left ih =>
    have h := ih (i + 1) ((s.noteRead (cat v 0 + BitVec.ofNat 16 i)).setMem (0xFE00 + i)
      (s.memRead (cat v 0 + BitVec.ofNat 16 i)))
    rw [State.oamDmaFrom, State.oamDmaFrom]
    simp only [State.readByte_fst, State.readByte_snd, State.noteRead_withCpu, State.memRead_withCpu]
    exact h

theorem State.advancePaletteIndex_withCpu (s : State) (c : Cpu) (r : Nat) :
    State.advancePaletteIndex { s with cpu := c } r = { s.advancePaletteIndex r with cpu := c } := by
  unfold State.advancePaletteIndex
  dsimp only [State.mem]
  split <;> rfl

theorem ite_withCpu {p : Prop} [Decidable p] {c : Cpu} {x y x' y' : State} (h : x' = { x with cpu := c })
    (h' : y' = { y with cpu := c }) : (if p then x' else y') = { (if p then x else y) with cpu := c } := by
  split
  · exact h
  · exact h'

theorem State.bankWrite_withCpu (s : State) (c : Cpu) (n : Nat) (v : Byte) :
    State.bankWrite { s with cpu := c } n v = { s.bankWrite n v with cpu := c } := by
  unfold State.bankWrite
  split
  · rfl
  split
  · rfl
  split <;> rfl

/-- A write through the MMU neither reads nor writes the CPU registers (R106). -/
theorem State.memWrite_withCpu (s : State) (c : Cpu) (a : Word) (v : Byte) :
    State.memWrite { s with cpu := c } a v = { s.memWrite a v with cpu := c } := by
  exact ite_withCpu (State.bankWrite_withCpu s c _ v) <| ite_withCpu rfl <| ite_withCpu rfl <| ite_withCpu rfl <|
    ite_withCpu rfl <| ite_withCpu rfl <| ite_withCpu rfl <|
    ite_withCpu (State.oamDmaFrom_withCpu v 160 0 (s.setMem a.toNat v) c) <| ite_withCpu rfl <|
    ite_withCpu (State.advancePaletteIndex_withCpu { s with ram := { s.ram with
      bgPal := s.ram.bgPal.write ((s.mem addrBcps).toNat % 64) v } } c addrBcps) <|
    ite_withCpu (State.advancePaletteIndex_withCpu { s with ram := { s.ram with
      objPal := s.ram.objPal.write ((s.mem addrOcps).toNat % 64) v } } c addrOcps) rfl

/-! ### The stack, the fetch and the interrupt dispatch -/

/-- A push is two writes, the high byte first, and SP two lower (R12). -/
theorem State.push16_eq (s : State) (v : Word) : s.push16 v =
    (((s.setSp (s.cpu.sp - 1)).memWrite (s.cpu.sp - 1) (hiByte v)).setSp (s.cpu.sp - 2)).memWrite (s.cpu.sp - 2)
      (loByte v) := by
  have e : s.cpu.sp - 1 - 1 = s.cpu.sp - 2 := by
    apply BitVec.eq_of_toNat_eq
    simp only [BitVec.toNat_sub]
    simp
    omega
  simp only [State.push16, State.setSp_cpu_sp, State.memWrite_cpu, e]

theorem State.push16_cpu (s : State) (v : Word) : (s.push16 v).cpu = { s.cpu with sp := s.cpu.sp - 2 } := by
  rw [State.push16_eq]; simp [State.setSp]

/-- A pop reads the low byte at SP, then the high byte at SP + 1, and leaves SP two higher (R12). -/
theorem State.pop16_fst (s : State) :
    s.pop16.1 = cat ((s.noteRead s.cpu.sp).memRead (s.cpu.sp + 1)) (s.memRead s.cpu.sp) := by
  have : (s.noteRead s.cpu.sp).cpu = s.cpu := by simp
  simp only [State.pop16, State.readByte_fst, State.readByte_snd, State.setSp_cpu_sp, this]
  congr 1

theorem State.noteRead_setSp (s : State) (a v : Word) : (s.setSp v).noteRead a = (s.noteRead a).setSp v := by
  rcases hd : s.params.divRead with _ | _
  · rw [State.noteRead_eq s _ (Or.inl hd), State.noteRead_eq (s.setSp v) _ (Or.inl hd)]
  · unfold State.noteRead
    simp only [State.setSp_params, hd]
    split <;> rfl

theorem State.pop16_snd (s : State) :
    s.pop16.2 = ((s.noteRead s.cpu.sp).noteRead (s.cpu.sp + 1)).setSp (s.cpu.sp + 2) := by
  have e : s.cpu.sp + 1 + 1 = s.cpu.sp + 2 := by
    apply BitVec.eq_of_toNat_eq
    simp only [BitVec.toNat_add]
    simp
  have : (s.noteRead s.cpu.sp).cpu = s.cpu := by simp
  simp only [State.pop16, State.readByte_snd, State.setSp_cpu_sp, this, State.noteRead_setSp, e]
  rfl

theorem State.fetch8_fst (s : State) : s.fetch8.1 = s.memRead s.cpu.pc := rfl

theorem State.fetch8_snd (s : State) : s.fetch8.2 = (s.noteRead s.cpu.pc).setPc (s.cpu.pc + 1) := by
  simp [State.fetch8]

/-- Trap entry (R405, R408): IME, ei_pending and the serviced IF bit are cleared, PC is saved and becomes the vector. -/
theorem State.takeInterrupt_cpu (s : State) (i : Nat) : (s.takeInterrupt i).cpu =
    { s.cpu with ime := false, eiPending := false, sp := s.cpu.sp - 2, pc := interruptVector i } := by
  simp [State.takeInterrupt, State.setPc, State.push16_cpu]

end Sys2Proof.Machine
end

