-- ==== Sys2Proof/Laws/Inv.lean ====
section
/-! SUPPORT. Every memory operation keeps the canonical form and the ranges of Safety.lean, one lemma an operation. -/

namespace Sys2Proof.Machine

/-! ### Memory -/

theorem Memory.wf_iff (r : Ram) : Memory.wf r = true ↔ r.mem.wf 0x8000 0x10000 = true ∧ r.vram1.wf 0 0x2000 = true ∧
    r.wramx.wf 0x2000 0x8000 = true ∧ r.bgPal.wf 0 64 = true ∧ r.objPal.wf 0 64 = true := by
  simp only [Memory.wf, Bool.and_eq_true, and_assoc]

theorem initBytes_wf (p : Params) (lo hi : Nat) (draws : Store 8) : (initBytes p lo hi draws).wf lo hi = true := by
  unfold initBytes
  split
  · rfl
  · exact Store.wf_fill _ _ _

/-- load_rom leaves memory canonical, whatever the parameters and the draws (R504). -/
theorem Memory.wf_resetRam (p : Params) (d : Ram) : Memory.wf (resetRam p d) = true := by
  have cells : ∀ c ∈ ioReset ++ ioResetCgb, 0x8000 ≤ c.1 ∧ c.1 < 0x10000 := by decide
  have pal : Store.wf 0 64 ((List.range 64).map fun i => (i, 0xFF#8)) = true := by decide
  have hd := Store.wf_foldl_write ioReset (initBytes_wf p 0x8000 0x10000 d.mem) fun c hc =>
    cells c (List.mem_append_left _ hc)
  have hg := Store.wf_foldl_write (ioReset ++ ioResetCgb) (initBytes_wf p 0x8000 0x10000 d.mem) cells
  rw [Memory.wf_iff]
  unfold resetRam
  split
  · dsimp only
    exact ⟨hd, Store.wf_nil _ _, Store.wf_nil _ _, Store.wf_nil _ _, Store.wf_nil _ _⟩
  · dsimp only
    exact ⟨hg, initBytes_wf .., initBytes_wf .., pal, initBytes_wf ..⟩

theorem Memory.wf_reset : Memory.wf State.reset.ram = true := by decide

/-- Two states that agree on what the invariant names. -/
theorem State.Inv.congr {s t : State} (h : s.Inv) (hf : t.cpu.f = s.cpu.f) (hr : t.ram = s.ram) (hc : t.cart = s.cart)
    (ht : t.timer = s.timer) (hp : t.ppu.fb = s.ppu.fb) (hd : t.driver = s.driver) : t.Inv := by
  unfold State.Inv
  rw [hf, hr, hc, ht, hp, hd]
  exact h

/-- The invariant of a state in which only memory differs. -/
theorem State.Inv.withRam {s t : State} (h : s.Inv) (hw : Memory.wf t.ram = true) (hf : t.cpu.f = s.cpu.f)
    (hc : t.cart = s.cart) (ht : t.timer = s.timer) (hp : t.ppu.fb = s.ppu.fb) (hd : t.driver = s.driver) : t.Inv := by
  refine ⟨?_, hw, ?_, ?_, ?_, ?_⟩
  · rw [hf]; exact h.1
  · rw [hc]; exact h.2.2.1
  · rw [ht]; exact h.2.2.2.1
  · rw [hp]; exact h.2.2.2.2.1
  · rw [hd]; exact h.2.2.2.2.2

theorem State.setMem_inv {s : State} (h : s.Inv) {a : Nat} (v : Byte) (hl : 0x8000 ≤ a) (hh : a < 0x10000) :
    (s.setMem a v).Inv := by
  have hw := (Memory.wf_iff s.ram).mp h.2.1
  refine h.withRam ((Memory.wf_iff _).mpr ⟨Store.wf_write v hw.1 hl hh, hw.2⟩) rfl rfl rfl rfl rfl

theorem State.requestInterrupt_inv {s : State} (h : s.Inv) (i : Nat) : (s.requestInterrupt i).Inv :=
  State.setMem_inv h _ (by decide) (by decide)

theorem State.noteRead_inv {s : State} (h : s.Inv) (a : Word) : (s.noteRead a).Inv :=
  h.congr (by simp) (by simp) (by simp) (by simp) (by simp) (by simp)

theorem State.setPc_inv {s : State} (h : s.Inv) (v : Word) : (s.setPc v).Inv := h.congr rfl rfl rfl rfl rfl rfl

theorem State.setSp_inv {s : State} (h : s.Inv) (v : Word) : (s.setSp v).Inv := h.congr rfl rfl rfl rfl rfl rfl

theorem State.setReg_inv {s : State} (h : s.Inv) (r : Reg8) (v : Byte) : (s.setReg r v).Inv :=
  h.congr (by simp) (by simp) (by simp) (by simp) (by simp) (by simp)

theorem State.addCycles_inv {s : State} (h : s.Inv) (n : Nat) : (s.addCycles n).Inv :=
  h.congr rfl rfl rfl rfl rfl rfl

theorem and_mask_low (v : Byte) : (v &&& 0xF0#8) &&& 0x0F#8 = 0 := by
  rw [BitVec.and_assoc]; simp

theorem packFlags_low (z n h c : Bool) : packFlags z n h c &&& 0x0F#8 = 0 := by
  cases z <;> cases n <;> cases h <;> cases c <;> rfl

/-- A new F with its low nibble 0 keeps the invariant (R33). -/
theorem State.Inv.withCpu {s : State} (h : s.Inv) (c : Cpu) (hf : c.f &&& 0x0F#8 = 0) : State.Inv { s with cpu := c } :=
  ⟨hf, h.2⟩

theorem State.setFlags_inv {s : State} (h : s.Inv) (z n hc c : Bool) : (s.setFlags z n hc c).Inv :=
  h.withCpu _ (packFlags_low z n hc c)

theorem State.setF_inv {s : State} (h : s.Inv) (v : Byte) : (s.setF v).Inv := h.withCpu _ (and_mask_low v)

theorem State.setPair_inv {s : State} (h : s.Inv) (p : Pair) (v : Word) : (s.setPair p v).Inv := by
  cases p
  case af => exact h.withCpu _ (and_mask_low _)
  all_goals exact h.withCpu _ h.1

theorem State.oamDmaFrom_inv (v : Byte) (left i : Nat) {s : State} (h : s.Inv) (hi : i + left ≤ 0x200) :
    (State.oamDmaFrom v left i s).Inv := by
  induction left generalizing i s with
  | zero => exact h
  | succ left ih => exact ih (i + 1) (State.setMem_inv (State.noteRead_inv h _) _ (by omega) (by omega)) (by omega)

theorem State.oamDma_inv {s : State} (h : s.Inv) (v : Byte) : (s.oamDma v).Inv :=
  State.oamDmaFrom_inv v 160 0 h (by decide)

theorem State.bankWrite_inv {s : State} (h : s.Inv) (n : Nat) (v : Byte) : (s.bankWrite n v).Inv := by
  have hc := h.2.2.1
  simp only [Cart.wf, Bool.and_eq_true, decide_eq_true_eq] at hc
  have put : ∀ c : Cart, c.wf = true → State.Inv { s with cart := c } :=
    fun c hw => ⟨h.1, h.2.1, hw, h.2.2.2⟩
  unfold State.bankWrite
  split
  · exact h
  split
  · refine put _ ?_
    simp only [Cart.wf, Bool.and_eq_true, decide_eq_true_eq]
    refine ⟨hc.1, ?_⟩
    split
    · decide
    · assumption
  split
  · exact put _ (by simp only [Cart.wf, Bool.and_eq_true, decide_eq_true_eq]; exact hc)
  · exact put _ (by simp only [Cart.wf, Bool.and_eq_true, decide_eq_true_eq]; exact hc)

theorem State.advancePaletteIndex_inv {s : State} (h : s.Inv) {r : Nat} (hl : 0x8000 ≤ r) (hh : r < 0x10000) :
    (s.advancePaletteIndex r).Inv := by
  simp only [State.advancePaletteIndex]
  split
  · exact State.setMem_inv h _ hl hh
  · exact h

theorem State.bgPaletteWrite_inv {s : State} (h : s.Inv) (v : Byte) : (s.bgPaletteWrite v).Inv := by
  have hw := (Memory.wf_iff s.ram).mp h.2.1
  have h1 : State.Inv { s with ram := { s.ram with bgPal := s.ram.bgPal.write ((s.mem addrBcps).toNat % 64) v } } :=
    h.withRam ((Memory.wf_iff _).mpr
      ⟨hw.1, hw.2.1, hw.2.2.1, Store.wf_write v hw.2.2.2.1 (Nat.zero_le _) (Nat.mod_lt _ (by decide)), hw.2.2.2.2⟩)
      rfl rfl rfl rfl rfl
  exact State.advancePaletteIndex_inv (r := addrBcps) h1 (by decide) (by decide)

theorem State.objPaletteWrite_inv {s : State} (h : s.Inv) (v : Byte) : (s.objPaletteWrite v).Inv := by
  have hw := (Memory.wf_iff s.ram).mp h.2.1
  have h1 : State.Inv { s with ram := { s.ram with objPal := s.ram.objPal.write ((s.mem addrOcps).toNat % 64) v } } :=
    h.withRam ((Memory.wf_iff _).mpr
      ⟨hw.1, hw.2.1, hw.2.2.1, hw.2.2.2.1, Store.wf_write v hw.2.2.2.2 (Nat.zero_le _) (Nat.mod_lt _ (by decide))⟩)
      rfl rfl rfl rfl rfl
  exact State.advancePaletteIndex_inv (r := addrOcps) h1 (by decide) (by decide)

/-- A write through the MMU keeps the invariant, the canonical form of memory among it (R106). -/
theorem State.memWrite_inv {s : State} (h : s.Inv) (a : Word) (v : Byte) : (s.memWrite a v).Inv := by
  have ha := a.isLt
  have hw := (Memory.wf_iff s.ram).mp h.2.1
  unfold State.memWrite
  dsimp only
  split
  · exact State.bankWrite_inv h _ _
  have hl : 0x8000 ≤ a.toNat := by omega
  split
  · next hc =>
    exact h.withRam ((Memory.wf_iff _).mpr ⟨hw.1, Store.wf_write v hw.2.1 (Nat.zero_le _) (by omega), hw.2.2⟩)
      rfl rfl rfl rfl rfl
  split
  · next hc =>
    have hx := hc.2.2
    simp only [State.wramxSelected, Bool.and_eq_true, decide_eq_true_eq] at hx
    have hb : s.wramBank < 8 := by
      simp only [State.wramBank]
      split <;> omega
    exact h.withRam ((Memory.wf_iff _).mpr
      ⟨hw.1, hw.2.1, Store.wf_write v hw.2.2.1 (by omega) (by omega), hw.2.2.2⟩) rfl rfl rfl rfl rfl
  split
  · exact (State.setMem_inv h v hl (by omega)).congr rfl rfl rfl rfl rfl rfl
  split
  · have ht := h.2.2.2.1
    simp only [Timer.wf, Bool.and_eq_true, decide_eq_true_eq] at ht
    exact ⟨h.1, h.2.1, h.2.2.1, by simp only [Timer.wf, Bool.and_eq_true, decide_eq_true_eq]; omega, h.2.2.2.2⟩
  split
  · exact State.setMem_inv h _ hl (by omega)
  split
  · exact h
  split
  · exact State.oamDma_inv (State.setMem_inv h v hl (by omega)) v
  split
  · exact State.setMem_inv h _ hl (by omega)
  split
  · exact State.bgPaletteWrite_inv h v
  split
  · exact State.objPaletteWrite_inv h v
  · exact State.setMem_inv h v hl (by omega)

theorem State.push16_inv {s : State} (h : s.Inv) (v : Word) : (s.push16 v).Inv := by
  rw [State.push16_eq]
  exact State.memWrite_inv (State.setSp_inv (State.memWrite_inv (State.setSp_inv h _) _ _) _) _ _

theorem State.pop16_inv {s : State} (h : s.Inv) : s.pop16.2.Inv := by
  rw [State.pop16_snd]
  exact State.setSp_inv (State.noteRead_inv (State.noteRead_inv h _) _) _

theorem State.fetch8_inv {s : State} (h : s.Inv) : s.fetch8.2.Inv := by
  rw [State.fetch8_snd]
  exact State.setPc_inv (State.noteRead_inv h _) _

/-! ### Interrupts, timer, PPU and driver -/

theorem State.takeInterrupt_inv {s : State} (h : s.Inv) (i : Nat) : (s.takeInterrupt i).Inv := by
  have h1 : (s.setMem addrIf (clearBit (s.mem addrIf) i)).Inv := State.setMem_inv h _ (by decide) (by decide)
  have h2 := h1.withCpu { s.cpu with ime := false, eiPending := false } h.1
  exact State.addCycles_inv (State.setPc_inv (State.push16_inv h2 s.cpu.pc) (interruptVector i)) _

theorem State.pollAndService_inv {s : State} (h : s.Inv) : s.pollAndService.Inv := by
  have h1 := h.withCpu { s.cpu with halted := false } h.1
  unfold State.pollAndService
  dsimp only
  split
  · exact h
  split
  · exact State.takeInterrupt_inv h1 (lowestSource s.pendingInterrupts)
  · exact h1

theorem State.commitEi_inv {s : State} (h : s.Inv) : s.commitEi.Inv := by
  simp only [State.commitEi]
  split
  · exact h.withCpu _ h.1
  · exact h

theorem State.timaIncrement_inv {s : State} (h : s.Inv) : s.timaIncrement.Inv := by
  simp only [State.timaIncrement]
  split
  · exact State.requestInterrupt_inv (State.setMem_inv h _ (by decide) (by decide)) _
  · exact State.setMem_inv h _ (by decide) (by decide)

theorem State.timaIncrements_inv (n : Nat) {s : State} (h : s.Inv) : (State.timaIncrements n s).Inv := by
  induction n generalizing s with
  | zero => exact h
  | succ n ih => exact ih (State.timaIncrement_inv h)

theorem timaPeriod_pos (tac : Byte) : 0 < timaPeriod tac ∧ timaPeriod tac ≤ 1024 := by
  unfold timaPeriod
  split <;> decide

theorem State.tick_inv {s : State} (h : s.Inv) (c : Nat) : (s.tick c).Inv := by
  have put : ∀ (s : State) (t : Timer), s.Inv → t.wf = true → State.Inv { s with timer := t } :=
    fun s t h hw => ⟨h.1, h.2.1, h.2.2.1, hw, h.2.2.2.2⟩
  have ht := h.2.2.2.1
  simp only [Timer.wf, Bool.and_eq_true, decide_eq_true_eq] at ht
  have h1 : (s.tickDiv c).Inv := by
    refine put _ _ h ?_
    simp only [Timer.wf, Bool.and_eq_true, decide_eq_true_eq]
    exact ⟨Nat.mod_lt _ (by decide), ht.2⟩
  simp only [State.tick, State.tickTima]
  split
  · refine State.timaIncrements_inv _ (put _ _ h1 ?_)
    have ht1 := h1.2.2.2.1
    simp only [Timer.wf, Bool.and_eq_true, decide_eq_true_eq] at ht1 ⊢
    have hp := timaPeriod_pos ((s.tickDiv c).mem addrTac)
    exact ⟨ht1.1, lt_of_lt_of_le (Nat.mod_lt _ hp.1) hp.2⟩
  · exact h1

theorem State.setLY_inv {s : State} (h : s.Inv) (l : Nat) : (s.setLY l).Inv := by
  have h1 : (s.setMem addrLy (BitVec.ofNat 8 l)).Inv := State.setMem_inv h _ (by decide) (by decide)
  simp only [State.setLY]
  split
  · split
    · exact State.requestInterrupt_inv (State.setMem_inv h1 _ (by decide) (by decide)) _
    · exact State.setMem_inv h1 _ (by decide) (by decide)
  · exact State.setMem_inv h1 _ (by decide) (by decide)

theorem State.putMode_inv {s : State} (h : s.Inv) (m : BitVec 2) : (s.putMode m).Inv :=
  (State.setMem_inv (a := addrStat) h ((s.mem addrStat &&& 0xFC#8) ||| m.setWidth 8) (by decide) (by decide)).congr
    rfl rfl rfl rfl rfl rfl

theorem State.setMode_inv {s : State} (h : s.Inv) (m : BitVec 2) : (s.setMode m).Inv := by
  simp only [State.setMode]
  split
  · exact State.requestInterrupt_inv (State.putMode_inv h m) _
  · exact State.putMode_inv h m

theorem State.renderLine_inv {s : State} (h : s.Inv) {l : Nat} (hl : l < 144) : (s.renderLine l).Inv := by
  have gen : ∀ (xs : List Nat) (fb : Store 15), (∀ x ∈ xs, x < 160) → fb.wf 0 23040 = true →
      (xs.foldl (fun fb px => Store.write fb (fbIndex l px) (s.pixel px l)) fb).wf 0 23040 = true := by
    intro xs
    induction xs with
    | nil => intro fb _ hw; exact hw
    | cons x xs ih =>
      intro fb hx hw
      have h1 := hx x (List.mem_cons_self ..)
      refine ih _ (fun y hy => hx y (List.mem_cons_of_mem _ hy)) (Store.wf_write _ hw (Nat.zero_le _) ?_)
      unfold fbIndex
      omega
  exact ⟨h.1, h.2.1, h.2.2.1, h.2.2.2.1, gen _ _ (fun x hx => List.mem_range.mp hx) h.2.2.2.2.1, h.2.2.2.2.2⟩

/-- A budget begun when the one before is used up is at most 456 cycles (R470). -/
theorem State.startBudget_inv {s : State} (h : s.Inv) {p : Phase} {b : Int} (hp : p.wf = true) (hb : b ≤ 456)
    (hs : s.driver.cycleBalance ≤ 0) : (s.startBudget p b).Inv := by
  have hd := h.2.2.2.2.2
  refine ⟨h.1, h.2.1, h.2.2.1, h.2.2.2.1, h.2.2.2.2.1, ?_⟩
  simp only [Driver.wf, Bool.and_eq_true, decide_eq_true_eq] at hd
  simp only [Driver.wf, Bool.and_eq_true, State.startBudget_phase, State.startBudget_frame,
    State.startBudget_cycleBalance]
  exact ⟨⟨hp, hd.1.2⟩, decide_eq_true (by omega)⟩

end Sys2Proof.Machine
end

