-- ==== Sys2Proof/Laws/PerInstr.lean ====
section
/-! SUPPORT. One lemma per constructor of Instr: the encoder writes as many bytes as the length table R169 gives the
first byte it writes. -/

namespace Sys2Proof.Laws.EncodeLength

open Sys2Proof

/-- A well-formed instruction's words are as long as LEN of their first byte says (30_encoding.md R169, R174). -/
def Statement (i : Instr) : Prop :=
  i.wellFormed = true → (encode i).length = instrLength ((encode i).headD 0)

theorem nop : Statement .nop := fun _ => rfl

theorem ldBCD16 (d16 : Word) : Statement (.ldBCD16 d16) := fun _ => (by decide : 3 = instrLength 0x01#8)

theorem ldIndBCA : Statement .ldIndBCA := fun _ => rfl

theorem incBC : Statement .incBC := fun _ => rfl

theorem incB : Statement .incB := fun _ => rfl

theorem decB : Statement .decB := fun _ => rfl

theorem ldBD8 (d8 : Byte) : Statement (.ldBD8 d8) := fun _ => (by decide : 2 = instrLength 0x06#8)

theorem rlca : Statement .rlca := fun _ => rfl

theorem ldIndA16SP (a16 : Word) : Statement (.ldIndA16SP a16) := fun _ => (by decide : 3 = instrLength 0x08#8)

theorem addHLBC : Statement .addHLBC := fun _ => rfl

theorem ldAIndBC : Statement .ldAIndBC := fun _ => rfl

theorem decBC : Statement .decBC := fun _ => rfl

theorem incC : Statement .incC := fun _ => rfl

theorem decC : Statement .decC := fun _ => rfl

theorem ldCD8 (d8 : Byte) : Statement (.ldCD8 d8) := fun _ => (by decide : 2 = instrLength 0x0E#8)

theorem rrca : Statement .rrca := fun _ => rfl

theorem stop (d8 : Byte) : Statement (.stop d8) := fun _ => (by decide : 2 = instrLength 0x10#8)

theorem ldDED16 (d16 : Word) : Statement (.ldDED16 d16) := fun _ => (by decide : 3 = instrLength 0x11#8)

theorem ldIndDEA : Statement .ldIndDEA := fun _ => rfl

theorem incDE : Statement .incDE := fun _ => rfl

theorem incD : Statement .incD := fun _ => rfl

theorem decD : Statement .decD := fun _ => rfl

theorem ldDD8 (d8 : Byte) : Statement (.ldDD8 d8) := fun _ => (by decide : 2 = instrLength 0x16#8)

theorem rla : Statement .rla := fun _ => rfl

theorem jrDisp (e : Byte) : Statement (.jrDisp e) := fun _ => (by decide : 2 = instrLength 0x18#8)

theorem addHLDE : Statement .addHLDE := fun _ => rfl

theorem ldAIndDE : Statement .ldAIndDE := fun _ => rfl

theorem decDE : Statement .decDE := fun _ => rfl

theorem incE : Statement .incE := fun _ => rfl

theorem decE : Statement .decE := fun _ => rfl

theorem ldED8 (d8 : Byte) : Statement (.ldED8 d8) := fun _ => (by decide : 2 = instrLength 0x1E#8)

theorem rra : Statement .rra := fun _ => rfl

theorem jrNZDisp (e : Byte) : Statement (.jrNZDisp e) := fun _ => (by decide : 2 = instrLength 0x20#8)

theorem ldHLD16 (d16 : Word) : Statement (.ldHLD16 d16) := fun _ => (by decide : 3 = instrLength 0x21#8)

theorem ldIndHLIncA : Statement .ldIndHLIncA := fun _ => rfl

theorem incHL : Statement .incHL := fun _ => rfl

theorem incH : Statement .incH := fun _ => rfl

theorem decH : Statement .decH := fun _ => rfl

theorem ldHD8 (d8 : Byte) : Statement (.ldHD8 d8) := fun _ => (by decide : 2 = instrLength 0x26#8)

theorem daa : Statement .daa := fun _ => rfl

theorem jrZDisp (e : Byte) : Statement (.jrZDisp e) := fun _ => (by decide : 2 = instrLength 0x28#8)

theorem addHLHL : Statement .addHLHL := fun _ => rfl

theorem ldAIndHLInc : Statement .ldAIndHLInc := fun _ => rfl

theorem decHL : Statement .decHL := fun _ => rfl

theorem incL : Statement .incL := fun _ => rfl

theorem decL : Statement .decL := fun _ => rfl

theorem ldLD8 (d8 : Byte) : Statement (.ldLD8 d8) := fun _ => (by decide : 2 = instrLength 0x2E#8)

theorem cpl : Statement .cpl := fun _ => rfl

theorem jrNCDisp (e : Byte) : Statement (.jrNCDisp e) := fun _ => (by decide : 2 = instrLength 0x30#8)

theorem ldSPD16 (d16 : Word) : Statement (.ldSPD16 d16) := fun _ => (by decide : 3 = instrLength 0x31#8)

theorem ldIndHLDecA : Statement .ldIndHLDecA := fun _ => rfl

theorem incSP : Statement .incSP := fun _ => rfl

theorem incIndHL : Statement .incIndHL := fun _ => rfl

theorem decIndHL : Statement .decIndHL := fun _ => rfl

theorem ldIndHLD8 (d8 : Byte) : Statement (.ldIndHLD8 d8) := fun _ => (by decide : 2 = instrLength 0x36#8)

theorem scf : Statement .scf := fun _ => rfl

theorem jrCDisp (e : Byte) : Statement (.jrCDisp e) := fun _ => (by decide : 2 = instrLength 0x38#8)

theorem addHLSP : Statement .addHLSP := fun _ => rfl

theorem ldAIndHLDec : Statement .ldAIndHLDec := fun _ => rfl

theorem decSP : Statement .decSP := fun _ => rfl

theorem incA : Statement .incA := fun _ => rfl

theorem decA : Statement .decA := fun _ => rfl

theorem ldAD8 (d8 : Byte) : Statement (.ldAD8 d8) := fun _ => (by decide : 2 = instrLength 0x3E#8)

theorem ccf : Statement .ccf := fun _ => rfl

theorem ldBB : Statement .ldBB := fun _ => rfl

theorem ldBC : Statement .ldBC := fun _ => rfl

theorem ldBD : Statement .ldBD := fun _ => rfl

theorem ldBE : Statement .ldBE := fun _ => rfl

theorem ldBH : Statement .ldBH := fun _ => rfl

theorem ldBL : Statement .ldBL := fun _ => rfl

theorem ldBIndHL : Statement .ldBIndHL := fun _ => rfl

theorem ldBA : Statement .ldBA := fun _ => rfl

theorem ldCB : Statement .ldCB := fun _ => rfl

theorem ldCC : Statement .ldCC := fun _ => rfl

theorem ldCD : Statement .ldCD := fun _ => rfl

theorem ldCE : Statement .ldCE := fun _ => rfl

theorem ldCH : Statement .ldCH := fun _ => rfl

theorem ldCL : Statement .ldCL := fun _ => rfl

theorem ldCIndHL : Statement .ldCIndHL := fun _ => rfl

theorem ldCA : Statement .ldCA := fun _ => rfl

theorem ldDB : Statement .ldDB := fun _ => rfl

theorem ldDC : Statement .ldDC := fun _ => rfl

theorem ldDD : Statement .ldDD := fun _ => rfl

theorem ldDE : Statement .ldDE := fun _ => rfl

theorem ldDH : Statement .ldDH := fun _ => rfl

theorem ldDL : Statement .ldDL := fun _ => rfl

theorem ldDIndHL : Statement .ldDIndHL := fun _ => rfl

theorem ldDA : Statement .ldDA := fun _ => rfl

theorem ldEB : Statement .ldEB := fun _ => rfl

theorem ldEC : Statement .ldEC := fun _ => rfl

theorem ldED : Statement .ldED := fun _ => rfl

theorem ldEE : Statement .ldEE := fun _ => rfl

theorem ldEH : Statement .ldEH := fun _ => rfl

theorem ldEL : Statement .ldEL := fun _ => rfl

theorem ldEIndHL : Statement .ldEIndHL := fun _ => rfl

theorem ldEA : Statement .ldEA := fun _ => rfl

theorem ldHB : Statement .ldHB := fun _ => rfl

theorem ldHC : Statement .ldHC := fun _ => rfl

theorem ldHD : Statement .ldHD := fun _ => rfl

theorem ldHE : Statement .ldHE := fun _ => rfl

theorem ldHH : Statement .ldHH := fun _ => rfl

theorem ldHL : Statement .ldHL := fun _ => rfl

theorem ldHIndHL : Statement .ldHIndHL := fun _ => rfl

theorem ldHA : Statement .ldHA := fun _ => rfl

theorem ldLB : Statement .ldLB := fun _ => rfl

theorem ldLC : Statement .ldLC := fun _ => rfl

theorem ldLD : Statement .ldLD := fun _ => rfl

theorem ldLE : Statement .ldLE := fun _ => rfl

theorem ldLH : Statement .ldLH := fun _ => rfl

theorem ldLL : Statement .ldLL := fun _ => rfl

theorem ldLIndHL : Statement .ldLIndHL := fun _ => rfl

theorem ldLA : Statement .ldLA := fun _ => rfl

theorem ldIndHLB : Statement .ldIndHLB := fun _ => rfl

theorem ldIndHLC : Statement .ldIndHLC := fun _ => rfl

theorem ldIndHLD : Statement .ldIndHLD := fun _ => rfl

theorem ldIndHLE : Statement .ldIndHLE := fun _ => rfl

theorem ldIndHLH : Statement .ldIndHLH := fun _ => rfl

theorem ldIndHLL : Statement .ldIndHLL := fun _ => rfl

theorem halt : Statement .halt := fun _ => rfl

theorem ldIndHLA : Statement .ldIndHLA := fun _ => rfl

theorem ldAB : Statement .ldAB := fun _ => rfl

theorem ldAC : Statement .ldAC := fun _ => rfl

theorem ldAD : Statement .ldAD := fun _ => rfl

theorem ldAE : Statement .ldAE := fun _ => rfl

theorem ldAH : Statement .ldAH := fun _ => rfl

theorem ldAL : Statement .ldAL := fun _ => rfl

theorem ldAIndHL : Statement .ldAIndHL := fun _ => rfl

theorem ldAA : Statement .ldAA := fun _ => rfl

theorem addAB : Statement .addAB := fun _ => rfl

theorem addAC : Statement .addAC := fun _ => rfl

theorem addAD : Statement .addAD := fun _ => rfl

theorem addAE : Statement .addAE := fun _ => rfl

theorem addAH : Statement .addAH := fun _ => rfl

theorem addAL : Statement .addAL := fun _ => rfl

theorem addAIndHL : Statement .addAIndHL := fun _ => rfl

theorem addAA : Statement .addAA := fun _ => rfl

theorem adcAB : Statement .adcAB := fun _ => rfl

theorem adcAC : Statement .adcAC := fun _ => rfl

theorem adcAD : Statement .adcAD := fun _ => rfl

theorem adcAE : Statement .adcAE := fun _ => rfl

theorem adcAH : Statement .adcAH := fun _ => rfl

theorem adcAL : Statement .adcAL := fun _ => rfl

theorem adcAIndHL : Statement .adcAIndHL := fun _ => rfl

theorem adcAA : Statement .adcAA := fun _ => rfl

theorem subB : Statement .subB := fun _ => rfl

theorem subC : Statement .subC := fun _ => rfl

theorem subD : Statement .subD := fun _ => rfl

theorem subE : Statement .subE := fun _ => rfl

theorem subH : Statement .subH := fun _ => rfl

theorem subL : Statement .subL := fun _ => rfl

theorem subIndHL : Statement .subIndHL := fun _ => rfl

theorem subA : Statement .subA := fun _ => rfl

theorem sbcAB : Statement .sbcAB := fun _ => rfl

theorem sbcAC : Statement .sbcAC := fun _ => rfl

theorem sbcAD : Statement .sbcAD := fun _ => rfl

theorem sbcAE : Statement .sbcAE := fun _ => rfl

theorem sbcAH : Statement .sbcAH := fun _ => rfl

theorem sbcAL : Statement .sbcAL := fun _ => rfl

theorem sbcAIndHL : Statement .sbcAIndHL := fun _ => rfl

theorem sbcAA : Statement .sbcAA := fun _ => rfl

theorem andB : Statement .andB := fun _ => rfl

theorem andC : Statement .andC := fun _ => rfl

theorem andD : Statement .andD := fun _ => rfl

theorem andE : Statement .andE := fun _ => rfl

theorem andH : Statement .andH := fun _ => rfl

theorem andL : Statement .andL := fun _ => rfl

theorem andIndHL : Statement .andIndHL := fun _ => rfl

theorem andA : Statement .andA := fun _ => rfl

theorem xorB : Statement .xorB := fun _ => rfl

theorem xorC : Statement .xorC := fun _ => rfl

theorem xorD : Statement .xorD := fun _ => rfl

theorem xorE : Statement .xorE := fun _ => rfl

theorem xorH : Statement .xorH := fun _ => rfl

theorem xorL : Statement .xorL := fun _ => rfl

theorem xorIndHL : Statement .xorIndHL := fun _ => rfl

theorem xorA : Statement .xorA := fun _ => rfl

theorem orB : Statement .orB := fun _ => rfl

theorem orC : Statement .orC := fun _ => rfl

theorem orD : Statement .orD := fun _ => rfl

theorem orE : Statement .orE := fun _ => rfl

theorem orH : Statement .orH := fun _ => rfl

theorem orL : Statement .orL := fun _ => rfl

theorem orIndHL : Statement .orIndHL := fun _ => rfl

theorem orA : Statement .orA := fun _ => rfl

theorem cpB : Statement .cpB := fun _ => rfl

theorem cpC : Statement .cpC := fun _ => rfl

theorem cpD : Statement .cpD := fun _ => rfl

theorem cpE : Statement .cpE := fun _ => rfl

theorem cpH : Statement .cpH := fun _ => rfl

theorem cpL : Statement .cpL := fun _ => rfl

theorem cpIndHL : Statement .cpIndHL := fun _ => rfl

theorem cpA : Statement .cpA := fun _ => rfl

theorem retNZ : Statement .retNZ := fun _ => rfl

theorem popBC : Statement .popBC := fun _ => rfl

theorem jpNZA16 (a16 : Word) : Statement (.jpNZA16 a16) := fun _ => (by decide : 3 = instrLength 0xC2#8)

theorem jpA16 (a16 : Word) : Statement (.jpA16 a16) := fun _ => (by decide : 3 = instrLength 0xC3#8)

theorem callNZA16 (a16 : Word) : Statement (.callNZA16 a16) := fun _ => (by decide : 3 = instrLength 0xC4#8)

theorem pushBC : Statement .pushBC := fun _ => rfl

theorem addAD8 (d8 : Byte) : Statement (.addAD8 d8) := fun _ => (by decide : 2 = instrLength 0xC6#8)

theorem rst00H : Statement .rst00H := fun _ => rfl

theorem retZ : Statement .retZ := fun _ => rfl

theorem ret : Statement .ret := fun _ => rfl

theorem jpZA16 (a16 : Word) : Statement (.jpZA16 a16) := fun _ => (by decide : 3 = instrLength 0xCA#8)

theorem prefixCB (cbop : Byte) : Statement (.prefixCB cbop) := fun _ => (by decide : 2 = instrLength 0xCB#8)

theorem callZA16 (a16 : Word) : Statement (.callZA16 a16) := fun _ => (by decide : 3 = instrLength 0xCC#8)

theorem callA16 (a16 : Word) : Statement (.callA16 a16) := fun _ => (by decide : 3 = instrLength 0xCD#8)

theorem adcAD8 (d8 : Byte) : Statement (.adcAD8 d8) := fun _ => (by decide : 2 = instrLength 0xCE#8)

theorem rst08H : Statement .rst08H := fun _ => rfl

theorem retNC : Statement .retNC := fun _ => rfl

theorem popDE : Statement .popDE := fun _ => rfl

theorem jpNCA16 (a16 : Word) : Statement (.jpNCA16 a16) := fun _ => (by decide : 3 = instrLength 0xD2#8)

theorem illegal (op : Byte) : Statement (.illegal op) := by
  have h : ∀ op : Byte, unassigned.contains op = true → instrLength op = 1 := by decide
  intro hw
  exact (h op hw).symm

theorem callNCA16 (a16 : Word) : Statement (.callNCA16 a16) := fun _ => (by decide : 3 = instrLength 0xD4#8)

theorem pushDE : Statement .pushDE := fun _ => rfl

theorem subD8 (d8 : Byte) : Statement (.subD8 d8) := fun _ => (by decide : 2 = instrLength 0xD6#8)

theorem rst10H : Statement .rst10H := fun _ => rfl

theorem retC : Statement .retC := fun _ => rfl

theorem reti : Statement .reti := fun _ => rfl

theorem jpCA16 (a16 : Word) : Statement (.jpCA16 a16) := fun _ => (by decide : 3 = instrLength 0xDA#8)

theorem callCA16 (a16 : Word) : Statement (.callCA16 a16) := fun _ => (by decide : 3 = instrLength 0xDC#8)

theorem sbcAD8 (d8 : Byte) : Statement (.sbcAD8 d8) := fun _ => (by decide : 2 = instrLength 0xDE#8)

theorem rst18H : Statement .rst18H := fun _ => rfl

theorem ldhIndA8A (a8 : Byte) : Statement (.ldhIndA8A a8) := fun _ => (by decide : 2 = instrLength 0xE0#8)

theorem popHL : Statement .popHL := fun _ => rfl

theorem ldIndCA : Statement .ldIndCA := fun _ => rfl

theorem pushHL : Statement .pushHL := fun _ => rfl

theorem andD8 (d8 : Byte) : Statement (.andD8 d8) := fun _ => (by decide : 2 = instrLength 0xE6#8)

theorem rst20H : Statement .rst20H := fun _ => rfl

theorem addSPDisp (e : Byte) : Statement (.addSPDisp e) := fun _ => (by decide : 2 = instrLength 0xE8#8)

theorem jpHL : Statement .jpHL := fun _ => rfl

theorem ldIndA16A (a16 : Word) : Statement (.ldIndA16A a16) := fun _ => (by decide : 3 = instrLength 0xEA#8)

theorem xorD8 (d8 : Byte) : Statement (.xorD8 d8) := fun _ => (by decide : 2 = instrLength 0xEE#8)

theorem rst28H : Statement .rst28H := fun _ => rfl

theorem ldhAIndA8 (a8 : Byte) : Statement (.ldhAIndA8 a8) := fun _ => (by decide : 2 = instrLength 0xF0#8)

theorem popAF : Statement .popAF := fun _ => rfl

theorem ldAIndC : Statement .ldAIndC := fun _ => rfl

theorem di : Statement .di := fun _ => rfl

theorem pushAF : Statement .pushAF := fun _ => rfl

theorem orD8 (d8 : Byte) : Statement (.orD8 d8) := fun _ => (by decide : 2 = instrLength 0xF6#8)

theorem rst30H : Statement .rst30H := fun _ => rfl

theorem ldHLSPDisp (e : Byte) : Statement (.ldHLSPDisp e) := fun _ => (by decide : 2 = instrLength 0xF8#8)

theorem ldSPHL : Statement .ldSPHL := fun _ => rfl

theorem ldAIndA16 (a16 : Word) : Statement (.ldAIndA16 a16) := fun _ => (by decide : 3 = instrLength 0xFA#8)

theorem ei : Statement .ei := fun _ => rfl

theorem cpD8 (d8 : Byte) : Statement (.cpD8 d8) := fun _ => (by decide : 2 = instrLength 0xFE#8)

theorem rst38H : Statement .rst38H := fun _ => rfl

theorem rlcB : Statement .rlcB := fun _ => rfl

theorem rlcC : Statement .rlcC := fun _ => rfl

theorem rlcD : Statement .rlcD := fun _ => rfl

theorem rlcE : Statement .rlcE := fun _ => rfl

theorem rlcH : Statement .rlcH := fun _ => rfl

theorem rlcL : Statement .rlcL := fun _ => rfl

theorem rlcIndHL : Statement .rlcIndHL := fun _ => rfl

theorem rlcA : Statement .rlcA := fun _ => rfl

theorem rrcB : Statement .rrcB := fun _ => rfl

theorem rrcC : Statement .rrcC := fun _ => rfl

theorem rrcD : Statement .rrcD := fun _ => rfl

theorem rrcE : Statement .rrcE := fun _ => rfl

theorem rrcH : Statement .rrcH := fun _ => rfl

theorem rrcL : Statement .rrcL := fun _ => rfl

theorem rrcIndHL : Statement .rrcIndHL := fun _ => rfl

theorem rrcA : Statement .rrcA := fun _ => rfl

theorem rlB : Statement .rlB := fun _ => rfl

theorem rlC : Statement .rlC := fun _ => rfl

theorem rlD : Statement .rlD := fun _ => rfl

theorem rlE : Statement .rlE := fun _ => rfl

theorem rlH : Statement .rlH := fun _ => rfl

theorem rlL : Statement .rlL := fun _ => rfl

theorem rlIndHL : Statement .rlIndHL := fun _ => rfl

theorem rlA : Statement .rlA := fun _ => rfl

theorem rrB : Statement .rrB := fun _ => rfl

theorem rrC : Statement .rrC := fun _ => rfl

theorem rrD : Statement .rrD := fun _ => rfl

theorem rrE : Statement .rrE := fun _ => rfl

theorem rrH : Statement .rrH := fun _ => rfl

theorem rrL : Statement .rrL := fun _ => rfl

theorem rrIndHL : Statement .rrIndHL := fun _ => rfl

theorem rrA : Statement .rrA := fun _ => rfl

theorem slaB : Statement .slaB := fun _ => rfl

theorem slaC : Statement .slaC := fun _ => rfl

theorem slaD : Statement .slaD := fun _ => rfl

theorem slaE : Statement .slaE := fun _ => rfl

theorem slaH : Statement .slaH := fun _ => rfl

theorem slaL : Statement .slaL := fun _ => rfl

theorem slaIndHL : Statement .slaIndHL := fun _ => rfl

theorem slaA : Statement .slaA := fun _ => rfl

theorem sraB : Statement .sraB := fun _ => rfl

theorem sraC : Statement .sraC := fun _ => rfl

theorem sraD : Statement .sraD := fun _ => rfl

theorem sraE : Statement .sraE := fun _ => rfl

theorem sraH : Statement .sraH := fun _ => rfl

theorem sraL : Statement .sraL := fun _ => rfl

theorem sraIndHL : Statement .sraIndHL := fun _ => rfl

theorem sraA : Statement .sraA := fun _ => rfl

theorem swapB : Statement .swapB := fun _ => rfl

theorem swapC : Statement .swapC := fun _ => rfl

theorem swapD : Statement .swapD := fun _ => rfl

theorem swapE : Statement .swapE := fun _ => rfl

theorem swapH : Statement .swapH := fun _ => rfl

theorem swapL : Statement .swapL := fun _ => rfl

theorem swapIndHL : Statement .swapIndHL := fun _ => rfl

theorem swapA : Statement .swapA := fun _ => rfl

theorem srlB : Statement .srlB := fun _ => rfl

theorem srlC : Statement .srlC := fun _ => rfl

theorem srlD : Statement .srlD := fun _ => rfl

theorem srlE : Statement .srlE := fun _ => rfl

theorem srlH : Statement .srlH := fun _ => rfl

theorem srlL : Statement .srlL := fun _ => rfl

theorem srlIndHL : Statement .srlIndHL := fun _ => rfl

theorem srlA : Statement .srlA := fun _ => rfl

theorem bit0B : Statement .bit0B := fun _ => rfl

theorem bit0C : Statement .bit0C := fun _ => rfl

theorem bit0D : Statement .bit0D := fun _ => rfl

theorem bit0E : Statement .bit0E := fun _ => rfl

theorem bit0H : Statement .bit0H := fun _ => rfl

theorem bit0L : Statement .bit0L := fun _ => rfl

theorem bit0IndHL : Statement .bit0IndHL := fun _ => rfl

theorem bit0A : Statement .bit0A := fun _ => rfl

theorem bit1B : Statement .bit1B := fun _ => rfl

theorem bit1C : Statement .bit1C := fun _ => rfl

theorem bit1D : Statement .bit1D := fun _ => rfl

theorem bit1E : Statement .bit1E := fun _ => rfl

theorem bit1H : Statement .bit1H := fun _ => rfl

theorem bit1L : Statement .bit1L := fun _ => rfl

theorem bit1IndHL : Statement .bit1IndHL := fun _ => rfl

theorem bit1A : Statement .bit1A := fun _ => rfl

theorem bit2B : Statement .bit2B := fun _ => rfl

theorem bit2C : Statement .bit2C := fun _ => rfl

theorem bit2D : Statement .bit2D := fun _ => rfl

theorem bit2E : Statement .bit2E := fun _ => rfl

theorem bit2H : Statement .bit2H := fun _ => rfl

theorem bit2L : Statement .bit2L := fun _ => rfl

theorem bit2IndHL : Statement .bit2IndHL := fun _ => rfl

theorem bit2A : Statement .bit2A := fun _ => rfl

theorem bit3B : Statement .bit3B := fun _ => rfl

theorem bit3C : Statement .bit3C := fun _ => rfl

theorem bit3D : Statement .bit3D := fun _ => rfl

theorem bit3E : Statement .bit3E := fun _ => rfl

theorem bit3H : Statement .bit3H := fun _ => rfl

theorem bit3L : Statement .bit3L := fun _ => rfl

theorem bit3IndHL : Statement .bit3IndHL := fun _ => rfl

theorem bit3A : Statement .bit3A := fun _ => rfl

theorem bit4B : Statement .bit4B := fun _ => rfl

theorem bit4C : Statement .bit4C := fun _ => rfl

theorem bit4D : Statement .bit4D := fun _ => rfl

theorem bit4E : Statement .bit4E := fun _ => rfl

theorem bit4H : Statement .bit4H := fun _ => rfl

theorem bit4L : Statement .bit4L := fun _ => rfl

theorem bit4IndHL : Statement .bit4IndHL := fun _ => rfl

theorem bit4A : Statement .bit4A := fun _ => rfl

theorem bit5B : Statement .bit5B := fun _ => rfl

theorem bit5C : Statement .bit5C := fun _ => rfl

theorem bit5D : Statement .bit5D := fun _ => rfl

theorem bit5E : Statement .bit5E := fun _ => rfl

theorem bit5H : Statement .bit5H := fun _ => rfl

theorem bit5L : Statement .bit5L := fun _ => rfl

theorem bit5IndHL : Statement .bit5IndHL := fun _ => rfl

theorem bit5A : Statement .bit5A := fun _ => rfl

theorem bit6B : Statement .bit6B := fun _ => rfl

theorem bit6C : Statement .bit6C := fun _ => rfl

theorem bit6D : Statement .bit6D := fun _ => rfl

theorem bit6E : Statement .bit6E := fun _ => rfl

theorem bit6H : Statement .bit6H := fun _ => rfl

theorem bit6L : Statement .bit6L := fun _ => rfl

theorem bit6IndHL : Statement .bit6IndHL := fun _ => rfl

theorem bit6A : Statement .bit6A := fun _ => rfl

theorem bit7B : Statement .bit7B := fun _ => rfl

theorem bit7C : Statement .bit7C := fun _ => rfl

theorem bit7D : Statement .bit7D := fun _ => rfl

theorem bit7E : Statement .bit7E := fun _ => rfl

theorem bit7H : Statement .bit7H := fun _ => rfl

theorem bit7L : Statement .bit7L := fun _ => rfl

theorem bit7IndHL : Statement .bit7IndHL := fun _ => rfl

theorem bit7A : Statement .bit7A := fun _ => rfl

theorem res0B : Statement .res0B := fun _ => rfl

theorem res0C : Statement .res0C := fun _ => rfl

theorem res0D : Statement .res0D := fun _ => rfl

theorem res0E : Statement .res0E := fun _ => rfl

theorem res0H : Statement .res0H := fun _ => rfl

theorem res0L : Statement .res0L := fun _ => rfl

theorem res0IndHL : Statement .res0IndHL := fun _ => rfl

theorem res0A : Statement .res0A := fun _ => rfl

theorem res1B : Statement .res1B := fun _ => rfl

theorem res1C : Statement .res1C := fun _ => rfl

theorem res1D : Statement .res1D := fun _ => rfl

theorem res1E : Statement .res1E := fun _ => rfl

theorem res1H : Statement .res1H := fun _ => rfl

theorem res1L : Statement .res1L := fun _ => rfl

theorem res1IndHL : Statement .res1IndHL := fun _ => rfl

theorem res1A : Statement .res1A := fun _ => rfl

theorem res2B : Statement .res2B := fun _ => rfl

theorem res2C : Statement .res2C := fun _ => rfl

theorem res2D : Statement .res2D := fun _ => rfl

theorem res2E : Statement .res2E := fun _ => rfl

theorem res2H : Statement .res2H := fun _ => rfl

theorem res2L : Statement .res2L := fun _ => rfl

theorem res2IndHL : Statement .res2IndHL := fun _ => rfl

theorem res2A : Statement .res2A := fun _ => rfl

theorem res3B : Statement .res3B := fun _ => rfl

theorem res3C : Statement .res3C := fun _ => rfl

theorem res3D : Statement .res3D := fun _ => rfl

theorem res3E : Statement .res3E := fun _ => rfl

theorem res3H : Statement .res3H := fun _ => rfl

theorem res3L : Statement .res3L := fun _ => rfl

theorem res3IndHL : Statement .res3IndHL := fun _ => rfl

theorem res3A : Statement .res3A := fun _ => rfl

theorem res4B : Statement .res4B := fun _ => rfl

theorem res4C : Statement .res4C := fun _ => rfl

theorem res4D : Statement .res4D := fun _ => rfl

theorem res4E : Statement .res4E := fun _ => rfl

theorem res4H : Statement .res4H := fun _ => rfl

theorem res4L : Statement .res4L := fun _ => rfl

theorem res4IndHL : Statement .res4IndHL := fun _ => rfl

theorem res4A : Statement .res4A := fun _ => rfl

theorem res5B : Statement .res5B := fun _ => rfl

theorem res5C : Statement .res5C := fun _ => rfl

theorem res5D : Statement .res5D := fun _ => rfl

theorem res5E : Statement .res5E := fun _ => rfl

theorem res5H : Statement .res5H := fun _ => rfl

theorem res5L : Statement .res5L := fun _ => rfl

theorem res5IndHL : Statement .res5IndHL := fun _ => rfl

theorem res5A : Statement .res5A := fun _ => rfl

theorem res6B : Statement .res6B := fun _ => rfl

theorem res6C : Statement .res6C := fun _ => rfl

theorem res6D : Statement .res6D := fun _ => rfl

theorem res6E : Statement .res6E := fun _ => rfl

theorem res6H : Statement .res6H := fun _ => rfl

theorem res6L : Statement .res6L := fun _ => rfl

theorem res6IndHL : Statement .res6IndHL := fun _ => rfl

theorem res6A : Statement .res6A := fun _ => rfl

theorem res7B : Statement .res7B := fun _ => rfl

theorem res7C : Statement .res7C := fun _ => rfl

theorem res7D : Statement .res7D := fun _ => rfl

theorem res7E : Statement .res7E := fun _ => rfl

theorem res7H : Statement .res7H := fun _ => rfl

theorem res7L : Statement .res7L := fun _ => rfl

theorem res7IndHL : Statement .res7IndHL := fun _ => rfl

theorem res7A : Statement .res7A := fun _ => rfl

theorem set0B : Statement .set0B := fun _ => rfl

theorem set0C : Statement .set0C := fun _ => rfl

theorem set0D : Statement .set0D := fun _ => rfl

theorem set0E : Statement .set0E := fun _ => rfl

theorem set0H : Statement .set0H := fun _ => rfl

theorem set0L : Statement .set0L := fun _ => rfl

theorem set0IndHL : Statement .set0IndHL := fun _ => rfl

theorem set0A : Statement .set0A := fun _ => rfl

theorem set1B : Statement .set1B := fun _ => rfl

theorem set1C : Statement .set1C := fun _ => rfl

theorem set1D : Statement .set1D := fun _ => rfl

theorem set1E : Statement .set1E := fun _ => rfl

theorem set1H : Statement .set1H := fun _ => rfl

theorem set1L : Statement .set1L := fun _ => rfl

theorem set1IndHL : Statement .set1IndHL := fun _ => rfl

theorem set1A : Statement .set1A := fun _ => rfl

theorem set2B : Statement .set2B := fun _ => rfl

theorem set2C : Statement .set2C := fun _ => rfl

theorem set2D : Statement .set2D := fun _ => rfl

theorem set2E : Statement .set2E := fun _ => rfl

theorem set2H : Statement .set2H := fun _ => rfl

theorem set2L : Statement .set2L := fun _ => rfl

theorem set2IndHL : Statement .set2IndHL := fun _ => rfl

theorem set2A : Statement .set2A := fun _ => rfl

theorem set3B : Statement .set3B := fun _ => rfl

theorem set3C : Statement .set3C := fun _ => rfl

theorem set3D : Statement .set3D := fun _ => rfl

theorem set3E : Statement .set3E := fun _ => rfl

theorem set3H : Statement .set3H := fun _ => rfl

theorem set3L : Statement .set3L := fun _ => rfl

theorem set3IndHL : Statement .set3IndHL := fun _ => rfl

theorem set3A : Statement .set3A := fun _ => rfl

theorem set4B : Statement .set4B := fun _ => rfl

theorem set4C : Statement .set4C := fun _ => rfl

theorem set4D : Statement .set4D := fun _ => rfl

theorem set4E : Statement .set4E := fun _ => rfl

theorem set4H : Statement .set4H := fun _ => rfl

theorem set4L : Statement .set4L := fun _ => rfl

theorem set4IndHL : Statement .set4IndHL := fun _ => rfl

theorem set4A : Statement .set4A := fun _ => rfl

theorem set5B : Statement .set5B := fun _ => rfl

theorem set5C : Statement .set5C := fun _ => rfl

theorem set5D : Statement .set5D := fun _ => rfl

theorem set5E : Statement .set5E := fun _ => rfl

theorem set5H : Statement .set5H := fun _ => rfl

theorem set5L : Statement .set5L := fun _ => rfl

theorem set5IndHL : Statement .set5IndHL := fun _ => rfl

theorem set5A : Statement .set5A := fun _ => rfl

theorem set6B : Statement .set6B := fun _ => rfl

theorem set6C : Statement .set6C := fun _ => rfl

theorem set6D : Statement .set6D := fun _ => rfl

theorem set6E : Statement .set6E := fun _ => rfl

theorem set6H : Statement .set6H := fun _ => rfl

theorem set6L : Statement .set6L := fun _ => rfl

theorem set6IndHL : Statement .set6IndHL := fun _ => rfl

theorem set6A : Statement .set6A := fun _ => rfl

theorem set7B : Statement .set7B := fun _ => rfl

theorem set7C : Statement .set7C := fun _ => rfl

theorem set7D : Statement .set7D := fun _ => rfl

theorem set7E : Statement .set7E := fun _ => rfl

theorem set7H : Statement .set7H := fun _ => rfl

theorem set7L : Statement .set7L := fun _ => rfl

theorem set7IndHL : Statement .set7IndHL := fun _ => rfl

theorem set7A : Statement .set7A := fun _ => rfl

end Sys2Proof.Laws.EncodeLength
end

