-- ==== Sys2Proof/Tests/Slice0.lean ====
section
/-! SUPPORT. The package's own tests: ill-formed terms, the words of every instruction, the vectors of
spec/95_test_vectors.md, one instruction placed and run, and a witness for the hypotheses of every obligation. -/

open Sys2Proof Sys2Proof.Machine Sys2Proof.Forms

namespace Sys2Proof.Tests

/-! ### Ill-formed terms -/

/-- `illegal` stands for the unassigned opcodes only (R173): 0x00 is NOP. -/
theorem test_illformed_illegal : (Instr.illegal 0x00).wellFormed = false := by decide

/-- 0xCB is no unassigned opcode. -/
theorem test_illformed_illegal_cb : (Instr.illegal 0xCB).wellFormed = false := by decide

/-- 0xCB and a byte are the words of a CB instruction, never of PREFIX CB itself (R356). -/
theorem test_illformed_prefix : (Instr.prefixCB 0x37).wellFormed = false := by decide

/-! ### The words of every instruction, opcode bits as R163 to R168 and R171 give them, operand bytes 34 12 -/

theorem test_decode_row_0 : ([0b00_000_000, 0b00_000_001, 0b00_000_010, 0b00_000_011, 0b00_000_100, 0b00_000_101, 0b00_000_110,
    0b00_000_111, 0b00_001_000, 0b00_001_001, 0b00_001_010, 0b00_001_011, 0b00_001_100, 0b00_001_101,
    0b00_001_110, 0b00_001_111] : List Byte).map (fun w => decodeBytes w 0x34 0x12) =
    [.nop, .ldBCD16 0x1234, .ldIndBCA, .incBC, .incB, .decB, .ldBD8 0x34, .rlca, .ldIndA16SP 0x1234,
    .addHLBC, .ldAIndBC, .decBC, .incC, .decC, .ldCD8 0x34, .rrca] := by decide

theorem test_decode_row_1 : ([0b00_010_000, 0b00_010_001, 0b00_010_010, 0b00_010_011, 0b00_010_100, 0b00_010_101, 0b00_010_110,
    0b00_010_111, 0b00_011_000, 0b00_011_001, 0b00_011_010, 0b00_011_011, 0b00_011_100, 0b00_011_101,
    0b00_011_110, 0b00_011_111] : List Byte).map (fun w => decodeBytes w 0x34 0x12) =
    [.stop 0x34, .ldDED16 0x1234, .ldIndDEA, .incDE, .incD, .decD, .ldDD8 0x34, .rla, .jrDisp 0x34,
    .addHLDE, .ldAIndDE, .decDE, .incE, .decE, .ldED8 0x34, .rra] := by decide

theorem test_decode_row_2 : ([0b00_100_000, 0b00_100_001, 0b00_100_010, 0b00_100_011, 0b00_100_100, 0b00_100_101, 0b00_100_110,
    0b00_100_111, 0b00_101_000, 0b00_101_001, 0b00_101_010, 0b00_101_011, 0b00_101_100, 0b00_101_101,
    0b00_101_110, 0b00_101_111] : List Byte).map (fun w => decodeBytes w 0x34 0x12) =
    [.jrNZDisp 0x34, .ldHLD16 0x1234, .ldIndHLIncA, .incHL, .incH, .decH, .ldHD8 0x34, .daa, .jrZDisp 0x34,
    .addHLHL, .ldAIndHLInc, .decHL, .incL, .decL, .ldLD8 0x34, .cpl] := by decide

theorem test_decode_row_3 : ([0b00_110_000, 0b00_110_001, 0b00_110_010, 0b00_110_011, 0b00_110_100, 0b00_110_101, 0b00_110_110,
    0b00_110_111, 0b00_111_000, 0b00_111_001, 0b00_111_010, 0b00_111_011, 0b00_111_100, 0b00_111_101,
    0b00_111_110, 0b00_111_111] : List Byte).map (fun w => decodeBytes w 0x34 0x12) =
    [.jrNCDisp 0x34, .ldSPD16 0x1234, .ldIndHLDecA, .incSP, .incIndHL, .decIndHL, .ldIndHLD8 0x34, .scf,
    .jrCDisp 0x34, .addHLSP, .ldAIndHLDec, .decSP, .incA, .decA, .ldAD8 0x34, .ccf] := by decide

theorem test_decode_ld_row_4 : ([0b01_000_000, 0b01_000_001, 0b01_000_010, 0b01_000_011, 0b01_000_100, 0b01_000_101, 0b01_000_110,
    0b01_000_111, 0b01_001_000, 0b01_001_001, 0b01_001_010, 0b01_001_011, 0b01_001_100, 0b01_001_101,
    0b01_001_110, 0b01_001_111] : List Byte).map (fun w => decodeBytes w 0x34 0x12) =
    [.ldBB, .ldBC, .ldBD, .ldBE, .ldBH, .ldBL, .ldBIndHL, .ldBA, .ldCB, .ldCC, .ldCD, .ldCE, .ldCH, .ldCL,
    .ldCIndHL, .ldCA] := by decide

theorem test_decode_ld_row_5 : ([0b01_010_000, 0b01_010_001, 0b01_010_010, 0b01_010_011, 0b01_010_100, 0b01_010_101, 0b01_010_110,
    0b01_010_111, 0b01_011_000, 0b01_011_001, 0b01_011_010, 0b01_011_011, 0b01_011_100, 0b01_011_101,
    0b01_011_110, 0b01_011_111] : List Byte).map (fun w => decodeBytes w 0x34 0x12) =
    [.ldDB, .ldDC, .ldDD, .ldDE, .ldDH, .ldDL, .ldDIndHL, .ldDA, .ldEB, .ldEC, .ldED, .ldEE, .ldEH, .ldEL,
    .ldEIndHL, .ldEA] := by decide

theorem test_decode_ld_row_6 : ([0b01_100_000, 0b01_100_001, 0b01_100_010, 0b01_100_011, 0b01_100_100, 0b01_100_101, 0b01_100_110,
    0b01_100_111, 0b01_101_000, 0b01_101_001, 0b01_101_010, 0b01_101_011, 0b01_101_100, 0b01_101_101,
    0b01_101_110, 0b01_101_111] : List Byte).map (fun w => decodeBytes w 0x34 0x12) =
    [.ldHB, .ldHC, .ldHD, .ldHE, .ldHH, .ldHL, .ldHIndHL, .ldHA, .ldLB, .ldLC, .ldLD, .ldLE, .ldLH, .ldLL,
    .ldLIndHL, .ldLA] := by decide

theorem test_decode_ld_row_7 : ([0b01_110_000, 0b01_110_001, 0b01_110_010, 0b01_110_011, 0b01_110_100, 0b01_110_101, 0b01_110_110,
    0b01_110_111, 0b01_111_000, 0b01_111_001, 0b01_111_010, 0b01_111_011, 0b01_111_100, 0b01_111_101,
    0b01_111_110, 0b01_111_111] : List Byte).map (fun w => decodeBytes w 0x34 0x12) =
    [.ldIndHLB, .ldIndHLC, .ldIndHLD, .ldIndHLE, .ldIndHLH, .ldIndHLL, .halt, .ldIndHLA, .ldAB, .ldAC,
    .ldAD, .ldAE, .ldAH, .ldAL, .ldAIndHL, .ldAA] := by decide

theorem test_decode_alu_add : ([0b10_000_000, 0b10_000_001, 0b10_000_010, 0b10_000_011, 0b10_000_100, 0b10_000_101, 0b10_000_110,
    0b10_000_111] : List Byte).map (fun w => decodeBytes w 0x34 0x12) =
    [.addAB, .addAC, .addAD, .addAE, .addAH, .addAL, .addAIndHL, .addAA] := by decide

theorem test_decode_alu_adc : ([0b10_001_000, 0b10_001_001, 0b10_001_010, 0b10_001_011, 0b10_001_100, 0b10_001_101, 0b10_001_110,
    0b10_001_111] : List Byte).map (fun w => decodeBytes w 0x34 0x12) =
    [.adcAB, .adcAC, .adcAD, .adcAE, .adcAH, .adcAL, .adcAIndHL, .adcAA] := by decide

theorem test_decode_alu_sub : ([0b10_010_000, 0b10_010_001, 0b10_010_010, 0b10_010_011, 0b10_010_100, 0b10_010_101, 0b10_010_110,
    0b10_010_111] : List Byte).map (fun w => decodeBytes w 0x34 0x12) =
    [.subB, .subC, .subD, .subE, .subH, .subL, .subIndHL, .subA] := by decide

theorem test_decode_alu_sbc : ([0b10_011_000, 0b10_011_001, 0b10_011_010, 0b10_011_011, 0b10_011_100, 0b10_011_101, 0b10_011_110,
    0b10_011_111] : List Byte).map (fun w => decodeBytes w 0x34 0x12) =
    [.sbcAB, .sbcAC, .sbcAD, .sbcAE, .sbcAH, .sbcAL, .sbcAIndHL, .sbcAA] := by decide

theorem test_decode_alu_and : ([0b10_100_000, 0b10_100_001, 0b10_100_010, 0b10_100_011, 0b10_100_100, 0b10_100_101, 0b10_100_110,
    0b10_100_111] : List Byte).map (fun w => decodeBytes w 0x34 0x12) =
    [.andB, .andC, .andD, .andE, .andH, .andL, .andIndHL, .andA] := by decide

theorem test_decode_alu_xor : ([0b10_101_000, 0b10_101_001, 0b10_101_010, 0b10_101_011, 0b10_101_100, 0b10_101_101, 0b10_101_110,
    0b10_101_111] : List Byte).map (fun w => decodeBytes w 0x34 0x12) =
    [.xorB, .xorC, .xorD, .xorE, .xorH, .xorL, .xorIndHL, .xorA] := by decide

theorem test_decode_alu_or : ([0b10_110_000, 0b10_110_001, 0b10_110_010, 0b10_110_011, 0b10_110_100, 0b10_110_101, 0b10_110_110,
    0b10_110_111] : List Byte).map (fun w => decodeBytes w 0x34 0x12) =
    [.orB, .orC, .orD, .orE, .orH, .orL, .orIndHL, .orA] := by decide

theorem test_decode_alu_cp : ([0b10_111_000, 0b10_111_001, 0b10_111_010, 0b10_111_011, 0b10_111_100, 0b10_111_101, 0b10_111_110,
    0b10_111_111] : List Byte).map (fun w => decodeBytes w 0x34 0x12) =
    [.cpB, .cpC, .cpD, .cpE, .cpH, .cpL, .cpIndHL, .cpA] := by decide

theorem test_decode_row_c : ([0b11_000_000, 0b11_000_001, 0b11_000_010, 0b11_000_011, 0b11_000_100, 0b11_000_101, 0b11_000_110,
    0b11_000_111, 0b11_001_000, 0b11_001_001, 0b11_001_010, 0b11_001_100, 0b11_001_101, 0b11_001_110,
    0b11_001_111] : List Byte).map (fun w => decodeBytes w 0x34 0x12) =
    [.retNZ, .popBC, .jpNZA16 0x1234, .jpA16 0x1234, .callNZA16 0x1234, .pushBC, .addAD8 0x34, .rst00H,
    .retZ, .ret, .jpZA16 0x1234, .callZA16 0x1234, .callA16 0x1234, .adcAD8 0x34, .rst08H] := by decide

theorem test_decode_row_d : ([0b11_010_000, 0b11_010_001, 0b11_010_010, 0b11_010_011, 0b11_010_100, 0b11_010_101, 0b11_010_110,
    0b11_010_111, 0b11_011_000, 0b11_011_001, 0b11_011_010, 0b11_011_011, 0b11_011_100, 0b11_011_101,
    0b11_011_110, 0b11_011_111] : List Byte).map (fun w => decodeBytes w 0x34 0x12) =
    [.retNC, .popDE, .jpNCA16 0x1234, .illegal 0xD3, .callNCA16 0x1234, .pushDE, .subD8 0x34, .rst10H,
    .retC, .reti, .jpCA16 0x1234, .illegal 0xDB, .callCA16 0x1234, .illegal 0xDD, .sbcAD8 0x34, .rst18H] := by decide

theorem test_decode_row_e : ([0b11_100_000, 0b11_100_001, 0b11_100_010, 0b11_100_011, 0b11_100_100, 0b11_100_101, 0b11_100_110,
    0b11_100_111, 0b11_101_000, 0b11_101_001, 0b11_101_010, 0b11_101_011, 0b11_101_100, 0b11_101_101,
    0b11_101_110, 0b11_101_111] : List Byte).map (fun w => decodeBytes w 0x34 0x12) =
    [.ldhIndA8A 0x34, .popHL, .ldIndCA, .illegal 0xE3, .illegal 0xE4, .pushHL, .andD8 0x34, .rst20H,
    .addSPDisp 0x34, .jpHL, .ldIndA16A 0x1234, .illegal 0xEB, .illegal 0xEC, .illegal 0xED, .xorD8 0x34,
    .rst28H] := by decide

theorem test_decode_row_f : ([0b11_110_000, 0b11_110_001, 0b11_110_010, 0b11_110_011, 0b11_110_100, 0b11_110_101, 0b11_110_110,
    0b11_110_111, 0b11_111_000, 0b11_111_001, 0b11_111_010, 0b11_111_011, 0b11_111_100, 0b11_111_101,
    0b11_111_110, 0b11_111_111] : List Byte).map (fun w => decodeBytes w 0x34 0x12) =
    [.ldhAIndA8 0x34, .popAF, .ldAIndC, .di, .illegal 0xF4, .pushAF, .orD8 0x34, .rst30H, .ldHLSPDisp 0x34,
    .ldSPHL, .ldAIndA16 0x1234, .ei, .illegal 0xFC, .illegal 0xFD, .cpD8 0x34, .rst38H] := by decide

theorem test_decode_cb_rlc : ([0b00_000_000, 0b00_000_001, 0b00_000_010, 0b00_000_011, 0b00_000_100, 0b00_000_101, 0b00_000_110,
    0b00_000_111] : List Byte).map (fun w => decodeBytes 0xCB w 0) =
    [.rlcB, .rlcC, .rlcD, .rlcE, .rlcH, .rlcL, .rlcIndHL, .rlcA] := by decide

theorem test_decode_cb_rrc : ([0b00_001_000, 0b00_001_001, 0b00_001_010, 0b00_001_011, 0b00_001_100, 0b00_001_101, 0b00_001_110,
    0b00_001_111] : List Byte).map (fun w => decodeBytes 0xCB w 0) =
    [.rrcB, .rrcC, .rrcD, .rrcE, .rrcH, .rrcL, .rrcIndHL, .rrcA] := by decide

theorem test_decode_cb_rl : ([0b00_010_000, 0b00_010_001, 0b00_010_010, 0b00_010_011, 0b00_010_100, 0b00_010_101, 0b00_010_110,
    0b00_010_111] : List Byte).map (fun w => decodeBytes 0xCB w 0) =
    [.rlB, .rlC, .rlD, .rlE, .rlH, .rlL, .rlIndHL, .rlA] := by decide

theorem test_decode_cb_rr : ([0b00_011_000, 0b00_011_001, 0b00_011_010, 0b00_011_011, 0b00_011_100, 0b00_011_101, 0b00_011_110,
    0b00_011_111] : List Byte).map (fun w => decodeBytes 0xCB w 0) =
    [.rrB, .rrC, .rrD, .rrE, .rrH, .rrL, .rrIndHL, .rrA] := by decide

theorem test_decode_cb_sla : ([0b00_100_000, 0b00_100_001, 0b00_100_010, 0b00_100_011, 0b00_100_100, 0b00_100_101, 0b00_100_110,
    0b00_100_111] : List Byte).map (fun w => decodeBytes 0xCB w 0) =
    [.slaB, .slaC, .slaD, .slaE, .slaH, .slaL, .slaIndHL, .slaA] := by decide

theorem test_decode_cb_sra : ([0b00_101_000, 0b00_101_001, 0b00_101_010, 0b00_101_011, 0b00_101_100, 0b00_101_101, 0b00_101_110,
    0b00_101_111] : List Byte).map (fun w => decodeBytes 0xCB w 0) =
    [.sraB, .sraC, .sraD, .sraE, .sraH, .sraL, .sraIndHL, .sraA] := by decide

theorem test_decode_cb_swap : ([0b00_110_000, 0b00_110_001, 0b00_110_010, 0b00_110_011, 0b00_110_100, 0b00_110_101, 0b00_110_110,
    0b00_110_111] : List Byte).map (fun w => decodeBytes 0xCB w 0) =
    [.swapB, .swapC, .swapD, .swapE, .swapH, .swapL, .swapIndHL, .swapA] := by decide

theorem test_decode_cb_srl : ([0b00_111_000, 0b00_111_001, 0b00_111_010, 0b00_111_011, 0b00_111_100, 0b00_111_101, 0b00_111_110,
    0b00_111_111] : List Byte).map (fun w => decodeBytes 0xCB w 0) =
    [.srlB, .srlC, .srlD, .srlE, .srlH, .srlL, .srlIndHL, .srlA] := by decide

theorem test_decode_cb_bit_0 : ([0b01_000_000, 0b01_000_001, 0b01_000_010, 0b01_000_011, 0b01_000_100, 0b01_000_101, 0b01_000_110,
    0b01_000_111] : List Byte).map (fun w => decodeBytes 0xCB w 0) =
    [.bit0B, .bit0C, .bit0D, .bit0E, .bit0H, .bit0L, .bit0IndHL, .bit0A] := by decide

theorem test_decode_cb_bit_1 : ([0b01_001_000, 0b01_001_001, 0b01_001_010, 0b01_001_011, 0b01_001_100, 0b01_001_101, 0b01_001_110,
    0b01_001_111] : List Byte).map (fun w => decodeBytes 0xCB w 0) =
    [.bit1B, .bit1C, .bit1D, .bit1E, .bit1H, .bit1L, .bit1IndHL, .bit1A] := by decide

theorem test_decode_cb_bit_2 : ([0b01_010_000, 0b01_010_001, 0b01_010_010, 0b01_010_011, 0b01_010_100, 0b01_010_101, 0b01_010_110,
    0b01_010_111] : List Byte).map (fun w => decodeBytes 0xCB w 0) =
    [.bit2B, .bit2C, .bit2D, .bit2E, .bit2H, .bit2L, .bit2IndHL, .bit2A] := by decide

theorem test_decode_cb_bit_3 : ([0b01_011_000, 0b01_011_001, 0b01_011_010, 0b01_011_011, 0b01_011_100, 0b01_011_101, 0b01_011_110,
    0b01_011_111] : List Byte).map (fun w => decodeBytes 0xCB w 0) =
    [.bit3B, .bit3C, .bit3D, .bit3E, .bit3H, .bit3L, .bit3IndHL, .bit3A] := by decide

theorem test_decode_cb_bit_4 : ([0b01_100_000, 0b01_100_001, 0b01_100_010, 0b01_100_011, 0b01_100_100, 0b01_100_101, 0b01_100_110,
    0b01_100_111] : List Byte).map (fun w => decodeBytes 0xCB w 0) =
    [.bit4B, .bit4C, .bit4D, .bit4E, .bit4H, .bit4L, .bit4IndHL, .bit4A] := by decide

theorem test_decode_cb_bit_5 : ([0b01_101_000, 0b01_101_001, 0b01_101_010, 0b01_101_011, 0b01_101_100, 0b01_101_101, 0b01_101_110,
    0b01_101_111] : List Byte).map (fun w => decodeBytes 0xCB w 0) =
    [.bit5B, .bit5C, .bit5D, .bit5E, .bit5H, .bit5L, .bit5IndHL, .bit5A] := by decide

theorem test_decode_cb_bit_6 : ([0b01_110_000, 0b01_110_001, 0b01_110_010, 0b01_110_011, 0b01_110_100, 0b01_110_101, 0b01_110_110,
    0b01_110_111] : List Byte).map (fun w => decodeBytes 0xCB w 0) =
    [.bit6B, .bit6C, .bit6D, .bit6E, .bit6H, .bit6L, .bit6IndHL, .bit6A] := by decide

theorem test_decode_cb_bit_7 : ([0b01_111_000, 0b01_111_001, 0b01_111_010, 0b01_111_011, 0b01_111_100, 0b01_111_101, 0b01_111_110,
    0b01_111_111] : List Byte).map (fun w => decodeBytes 0xCB w 0) =
    [.bit7B, .bit7C, .bit7D, .bit7E, .bit7H, .bit7L, .bit7IndHL, .bit7A] := by decide

theorem test_decode_cb_res_0 : ([0b10_000_000, 0b10_000_001, 0b10_000_010, 0b10_000_011, 0b10_000_100, 0b10_000_101, 0b10_000_110,
    0b10_000_111] : List Byte).map (fun w => decodeBytes 0xCB w 0) =
    [.res0B, .res0C, .res0D, .res0E, .res0H, .res0L, .res0IndHL, .res0A] := by decide

theorem test_decode_cb_res_1 : ([0b10_001_000, 0b10_001_001, 0b10_001_010, 0b10_001_011, 0b10_001_100, 0b10_001_101, 0b10_001_110,
    0b10_001_111] : List Byte).map (fun w => decodeBytes 0xCB w 0) =
    [.res1B, .res1C, .res1D, .res1E, .res1H, .res1L, .res1IndHL, .res1A] := by decide

theorem test_decode_cb_res_2 : ([0b10_010_000, 0b10_010_001, 0b10_010_010, 0b10_010_011, 0b10_010_100, 0b10_010_101, 0b10_010_110,
    0b10_010_111] : List Byte).map (fun w => decodeBytes 0xCB w 0) =
    [.res2B, .res2C, .res2D, .res2E, .res2H, .res2L, .res2IndHL, .res2A] := by decide

theorem test_decode_cb_res_3 : ([0b10_011_000, 0b10_011_001, 0b10_011_010, 0b10_011_011, 0b10_011_100, 0b10_011_101, 0b10_011_110,
    0b10_011_111] : List Byte).map (fun w => decodeBytes 0xCB w 0) =
    [.res3B, .res3C, .res3D, .res3E, .res3H, .res3L, .res3IndHL, .res3A] := by decide

theorem test_decode_cb_res_4 : ([0b10_100_000, 0b10_100_001, 0b10_100_010, 0b10_100_011, 0b10_100_100, 0b10_100_101, 0b10_100_110,
    0b10_100_111] : List Byte).map (fun w => decodeBytes 0xCB w 0) =
    [.res4B, .res4C, .res4D, .res4E, .res4H, .res4L, .res4IndHL, .res4A] := by decide

theorem test_decode_cb_res_5 : ([0b10_101_000, 0b10_101_001, 0b10_101_010, 0b10_101_011, 0b10_101_100, 0b10_101_101, 0b10_101_110,
    0b10_101_111] : List Byte).map (fun w => decodeBytes 0xCB w 0) =
    [.res5B, .res5C, .res5D, .res5E, .res5H, .res5L, .res5IndHL, .res5A] := by decide

theorem test_decode_cb_res_6 : ([0b10_110_000, 0b10_110_001, 0b10_110_010, 0b10_110_011, 0b10_110_100, 0b10_110_101, 0b10_110_110,
    0b10_110_111] : List Byte).map (fun w => decodeBytes 0xCB w 0) =
    [.res6B, .res6C, .res6D, .res6E, .res6H, .res6L, .res6IndHL, .res6A] := by decide

theorem test_decode_cb_res_7 : ([0b10_111_000, 0b10_111_001, 0b10_111_010, 0b10_111_011, 0b10_111_100, 0b10_111_101, 0b10_111_110,
    0b10_111_111] : List Byte).map (fun w => decodeBytes 0xCB w 0) =
    [.res7B, .res7C, .res7D, .res7E, .res7H, .res7L, .res7IndHL, .res7A] := by decide

theorem test_decode_cb_set_0 : ([0b11_000_000, 0b11_000_001, 0b11_000_010, 0b11_000_011, 0b11_000_100, 0b11_000_101, 0b11_000_110,
    0b11_000_111] : List Byte).map (fun w => decodeBytes 0xCB w 0) =
    [.set0B, .set0C, .set0D, .set0E, .set0H, .set0L, .set0IndHL, .set0A] := by decide

theorem test_decode_cb_set_1 : ([0b11_001_000, 0b11_001_001, 0b11_001_010, 0b11_001_011, 0b11_001_100, 0b11_001_101, 0b11_001_110,
    0b11_001_111] : List Byte).map (fun w => decodeBytes 0xCB w 0) =
    [.set1B, .set1C, .set1D, .set1E, .set1H, .set1L, .set1IndHL, .set1A] := by decide

theorem test_decode_cb_set_2 : ([0b11_010_000, 0b11_010_001, 0b11_010_010, 0b11_010_011, 0b11_010_100, 0b11_010_101, 0b11_010_110,
    0b11_010_111] : List Byte).map (fun w => decodeBytes 0xCB w 0) =
    [.set2B, .set2C, .set2D, .set2E, .set2H, .set2L, .set2IndHL, .set2A] := by decide

theorem test_decode_cb_set_3 : ([0b11_011_000, 0b11_011_001, 0b11_011_010, 0b11_011_011, 0b11_011_100, 0b11_011_101, 0b11_011_110,
    0b11_011_111] : List Byte).map (fun w => decodeBytes 0xCB w 0) =
    [.set3B, .set3C, .set3D, .set3E, .set3H, .set3L, .set3IndHL, .set3A] := by decide

theorem test_decode_cb_set_4 : ([0b11_100_000, 0b11_100_001, 0b11_100_010, 0b11_100_011, 0b11_100_100, 0b11_100_101, 0b11_100_110,
    0b11_100_111] : List Byte).map (fun w => decodeBytes 0xCB w 0) =
    [.set4B, .set4C, .set4D, .set4E, .set4H, .set4L, .set4IndHL, .set4A] := by decide

theorem test_decode_cb_set_5 : ([0b11_101_000, 0b11_101_001, 0b11_101_010, 0b11_101_011, 0b11_101_100, 0b11_101_101, 0b11_101_110,
    0b11_101_111] : List Byte).map (fun w => decodeBytes 0xCB w 0) =
    [.set5B, .set5C, .set5D, .set5E, .set5H, .set5L, .set5IndHL, .set5A] := by decide

theorem test_decode_cb_set_6 : ([0b11_110_000, 0b11_110_001, 0b11_110_010, 0b11_110_011, 0b11_110_100, 0b11_110_101, 0b11_110_110,
    0b11_110_111] : List Byte).map (fun w => decodeBytes 0xCB w 0) =
    [.set6B, .set6C, .set6D, .set6E, .set6H, .set6L, .set6IndHL, .set6A] := by decide

theorem test_decode_cb_set_7 : ([0b11_111_000, 0b11_111_001, 0b11_111_010, 0b11_111_011, 0b11_111_100, 0b11_111_101, 0b11_111_110,
    0b11_111_111] : List Byte).map (fun w => decodeBytes 0xCB w 0) =
    [.set7B, .set7C, .set7D, .set7E, .set7H, .set7L, .set7IndHL, .set7A] := by decide

/-- A list that ends inside an instruction is refused by name. -/
theorem test_decode_truncated : (match decode [0x01, 0x34] with
    | .error .truncated => true
    | _ => false) = true := by decide

/-! ### The vectors of 95_test_vectors.md part 2: one row each, the whole state compared -/

/-- One change of a state, as the vector tables list them. -/
inductive Edit where
  | reg (r : Reg8) (v : Byte)
  | f (v : Byte)
  | pair (p : Pair) (v : Word)
  | pc (v : Word)
  | mem (a : Nat) (v : Byte)
  | ime (b : Bool)
  | halted (b : Bool)
  | ei (b : Bool)
  | divAcc (n : Nat)
  | bank (n : BitVec 5)
  | rom (o : Nat) (v : Byte)

def Edit.apply (s : State) : Edit → State
  | .reg r v => s.setReg r v
  | .f v => { s with cpu := { s.cpu with f := v } }
  | .pair p v => s.setPair p v
  | .pc v => s.setPc v
  | .mem a v => s.setMem a v
  | .ime b => { s with cpu := { s.cpu with ime := b } }
  | .halted b => { s with cpu := { s.cpu with halted := b } }
  | .ei b => { s with cpu := { s.cpu with eiPending := b } }
  | .divAcc n => { s with timer := { s.timer with divAcc := n } }
  | .bank n => { s with cart := { s.cart with romBankLo := n } }
  | .rom o v => { s with cart := { s.cart with rom := { s.cart.rom with bytes := s.cart.rom.bytes.write o v } } }

/-- A row of 95_test_vectors.md part 2: the steps run, the code at 0xC000, the changes of the reset state at the
start, the cycles, and every change at the end. -/
structure Vector95 where
  steps : Nat
  code : List Byte
  start : List Edit
  cycles : Nat
  result : List Edit

/-- The code of a vector in memory from `a` on. -/
def place : Nat → List Byte → State → State
  | _, [], s => s
  | a, b :: bs, s => place (a + 1) bs (s.setMem a b)

/-- `n` calls of `step()` (R162). -/
def cpuSteps : Nat → State → Result
  | 0, s => .next s
  | n + 1, s =>
    match cpuStep s with
    | .next t => cpuSteps n t
    | r => r

/-- `n` machine steps (R401), each counting its own cycles. -/
def machineSteps : Nat → State → Result
  | 0, s => .next s
  | n + 1, s =>
    match machineStep { s with stepCycles := 0 } with
    | .next t => machineSteps n t
    | r => r

def Vector95.begin (v : Vector95) : State := v.start.foldl Edit.apply ((place 0xC000 v.code State.reset).setPc 0xC000)

/-- The whole state after `step()` is the start with the listed changes and cycles. -/
def Vector95.ok (v : Vector95) : Bool :=
  match cpuSteps v.steps v.begin with
  | .next t => decide (t = (v.result.foldl Edit.apply v.begin).addCycles v.cycles)
  | _ => false

/-- The whole state after the machine steps is the start with the listed changes, the cycles charged to the budget. -/
def Vector95.okMachine (v : Vector95) : Bool :=
  match machineSteps v.steps v.begin with
  | .next t => decide ({ t with stepCycles := 0 } =
      { v.result.foldl Edit.apply v.begin with driver := { v.begin.driver with cycleBalance := -v.cycles } })
  | _ => false

/-- 95_test_vectors.md, LD1 to LD12 (40_load8.md). -/
theorem test_load8_ld1_to_ld12 : ([
    ⟨1, [0x41], [.reg .b 0x12, .reg .c 0x34, .f 0x00], 4, [.reg .a 0x01, .f 0x00, .pair .bc 0x3434, .pc 0xC001]⟩,
    ⟨1, [0x3E, 0xA5], [.f 0x00], 8, [.reg .a 0xA5, .f 0x00, .pc 0xC002]⟩,
    ⟨1, [0x7E], [.pair .hl 0xD000, .f 0x00, .mem 0xD000 0x5C], 8, [.reg .a 0x5C, .f 0x00, .pc 0xC001]⟩,
    ⟨1, [0x70], [.pair .hl 0xD000, .reg .b 0x77, .f 0x00], 8,
      [.reg .a 0x01, .f 0x00, .pc 0xC001, .mem 0xD000 0x77]⟩,
    ⟨1, [0x36, 0x99], [.pair .hl 0xD000, .f 0x00], 12, [.reg .a 0x01, .f 0x00, .pc 0xC002, .mem 0xD000 0x99]⟩,
    ⟨1, [0x0A], [.pair .bc 0xD010, .f 0x00, .mem 0xD010 0x3C], 8, [.reg .a 0x3C, .f 0x00, .pc 0xC001]⟩,
    ⟨1, [0x12], [.pair .de 0xD020, .reg .a 0x4B, .f 0x00], 8,
      [.reg .a 0x4B, .f 0x00, .pc 0xC001, .mem 0xD020 0x4B]⟩,
    ⟨1, [0xFA, 0x50, 0x01], [.rom 0x0150 0x11, .f 0x00], 16, [.reg .a 0x11, .f 0x00, .pc 0xC003]⟩,
    ⟨1, [0xEA, 0x00, 0x21], [.reg .a 0x03, .f 0x00], 16, [.reg .a 0x03, .f 0x00, .pc 0xC003, .bank 3]⟩,
    ⟨1, [0xF0, 0x80], [.f 0x00, .mem 0xFF80 0x6D], 12, [.reg .a 0x6D, .f 0x00, .pc 0xC002]⟩,
    ⟨1, [0xE0, 0x85], [.reg .a 0x2E, .f 0x00], 12, [.reg .a 0x2E, .f 0x00, .pc 0xC002, .mem 0xFF85 0x2E]⟩,
    ⟨1, [0xF2], [.reg .c 0x81, .f 0x00, .mem 0xFF81 0x1F], 8, [.reg .a 0x1F, .f 0x00, .pc 0xC001]⟩] : List Vector95).all (Vector95.ok) = true := by decide

/-- 95_test_vectors.md, LD13 to LD18 (40_load8.md). -/
theorem test_load8_ld13_to_ld18 : ([
    ⟨1, [0xE2], [.reg .c 0x0F, .reg .a 0x04, .f 0x00], 8, [.reg .a 0x04, .f 0x00, .pc 0xC001, .mem 0xFF0F 0x04]⟩,
    ⟨1, [0x22], [.pair .hl 0xD0FF, .reg .a 0x01, .f 0x00], 8,
      [.reg .a 0x01, .f 0x00, .pair .hl 0xD100, .pc 0xC001, .mem 0xD0FF 0x01]⟩,
    ⟨1, [0x2A], [.pair .hl 0xFFFF, .f 0x00], 8, [.reg .a 0x00, .f 0x00, .pair .hl 0x0000, .pc 0xC001]⟩,
    ⟨1, [0x32], [.pair .hl 0xD000, .reg .a 0x55, .f 0x00], 8,
      [.reg .a 0x55, .f 0x00, .pair .hl 0xCFFF, .pc 0xC001, .mem 0xD000 0x55]⟩,
    ⟨1, [0x3A], [.rom 0x0000 0xC7, .pair .hl 0x0000, .f 0x00], 8,
      [.reg .a 0xC7, .f 0x00, .pair .hl 0xFFFF, .pc 0xC001]⟩,
    ⟨1, [0x02], [.pair .bc 0x1000, .reg .a 0x55, .f 0x00], 8, [.reg .a 0x55, .f 0x00, .pc 0xC001]⟩] : List Vector95).all (Vector95.ok) = true := by decide

/-- 95_test_vectors.md, LW1 to LW12 (41_load16.md). -/
theorem test_load16_lw1_to_lw12 : ([
    ⟨1, [0x21, 0x34, 0x12], [.f 0x00], 12, [.reg .a 0x01, .f 0x00, .pair .hl 0x1234, .pc 0xC003]⟩,
    ⟨1, [0x31, 0xFE, 0xDF], [.f 0x00], 12, [.reg .a 0x01, .f 0x00, .pair .sp 0xDFFE, .pc 0xC003]⟩,
    ⟨1, [0x08, 0x00, 0xD0], [.pair .sp 0xABCD, .f 0x00], 20,
      [.reg .a 0x01, .f 0x00, .pc 0xC003, .mem 0xD000 0xCD, .mem 0xD001 0xAB]⟩,
    ⟨1, [0x08, 0xFF, 0xFF], [.pair .sp 0x1234, .f 0x00], 20,
      [.reg .a 0x01, .f 0x00, .pc 0xC003, .mem 0xFFFF 0x34]⟩,
    ⟨1, [0xF9], [.pair .hl 0xD123, .f 0x00], 8, [.reg .a 0x01, .f 0x00, .pair .sp 0xD123, .pc 0xC001]⟩,
    ⟨1, [0xC5], [.pair .bc 0x1234, .pair .sp 0xFFFE, .f 0x00], 16,
      [.reg .a 0x01, .f 0x00, .pair .sp 0xFFFC, .pc 0xC001, .mem 0xFFFC 0x34, .mem 0xFFFD 0x12]⟩,
    ⟨1, [0xD1], [.pair .sp 0xDFFE, .f 0x00, .mem 0xDFFE 0x78, .mem 0xDFFF 0x56], 12,
      [.reg .a 0x01, .f 0x00, .pair .de 0x5678, .pair .sp 0xE000, .pc 0xC001]⟩,
    ⟨1, [0xF1], [.pair .sp 0xDFFE, .f 0x00, .mem 0xDFFE 0xFF, .mem 0xDFFF 0x12], 12,
      [.reg .a 0x12, .f 0xF0, .pair .sp 0xE000, .pc 0xC001]⟩,
    ⟨1, [0xF5], [.pair .sp 0xDFFE, .reg .a 0x12, .f 0xF0], 16,
      [.reg .a 0x12, .f 0xF0, .pair .sp 0xDFFC, .pc 0xC001, .mem 0xDFFC 0xF0, .mem 0xDFFD 0x12]⟩,
    ⟨1, [0xF8, 0x02], [.pair .sp 0xFFF8, .f 0xF0], 12, [.reg .a 0x01, .f 0x00, .pair .hl 0xFFFA, .pc 0xC002]⟩,
    ⟨1, [0xF8, 0x01], [.pair .sp 0x000F, .f 0x00], 12, [.reg .a 0x01, .f 0x20, .pair .hl 0x0010, .pc 0xC002]⟩,
    ⟨1, [0xF8, 0x01], [.pair .sp 0x00FF, .f 0x00], 12, [.reg .a 0x01, .f 0x30, .pair .hl 0x0100, .pc 0xC002]⟩] : List Vector95).all (Vector95.ok) = true := by decide

/-- 95_test_vectors.md, LW13 to LW15 (41_load16.md). -/
theorem test_load16_lw13_to_lw15 : ([
    ⟨1, [0xF8, 0xFF], [.pair .sp 0x0000, .f 0x00], 12, [.reg .a 0x01, .f 0x00, .pair .hl 0xFFFF, .pc 0xC002]⟩,
    ⟨1, [0xF8, 0xFF], [.pair .sp 0x0001, .f 0x00], 12, [.reg .a 0x01, .f 0x30, .pair .hl 0x0000, .pc 0xC002]⟩,
    ⟨1, [0xF8, 0x80], [.pair .sp 0xD000, .f 0x00], 12, [.reg .a 0x01, .f 0x00, .pair .hl 0xCF80, .pc 0xC002]⟩] : List Vector95).all (Vector95.ok) = true := by decide

/-- 95_test_vectors.md, AL1 to AL12 (42_alu8.md). -/
theorem test_alu8_al1_to_al12 : ([
    ⟨1, [0x80], [.reg .a 0x3A, .reg .b 0xC6, .f 0x00], 4, [.reg .a 0x00, .f 0xB0, .pc 0xC001]⟩,
    ⟨1, [0xC6, 0x01], [.reg .a 0x0F, .f 0x00], 8, [.reg .a 0x10, .f 0x20, .pc 0xC002]⟩,
    ⟨1, [0xC6, 0x80], [.reg .a 0x80, .f 0x00], 8, [.reg .a 0x00, .f 0x90, .pc 0xC002]⟩,
    ⟨1, [0x86], [.reg .a 0x3C, .pair .hl 0xD000, .f 0x00, .mem 0xD000 0x12], 8,
      [.reg .a 0x4E, .f 0x00, .pc 0xC001]⟩,
    ⟨1, [0xCE, 0x00], [.reg .a 0xFF, .f 0x10], 8, [.reg .a 0x00, .f 0xB0, .pc 0xC002]⟩,
    ⟨1, [0x88], [.reg .a 0x0E, .reg .b 0x01, .f 0x10], 4, [.reg .a 0x10, .f 0x20, .pc 0xC001]⟩,
    ⟨1, [0xCE, 0xFF], [.reg .a 0x00, .f 0x10], 8, [.reg .a 0x00, .f 0xB0, .pc 0xC002]⟩,
    ⟨1, [0x90], [.reg .a 0x3E, .reg .b 0x3E, .f 0x00], 4, [.reg .a 0x00, .f 0xC0, .pc 0xC001]⟩,
    ⟨1, [0xD6, 0x0F], [.reg .a 0x3E, .f 0x00], 8, [.reg .a 0x2F, .f 0x60, .pc 0xC002]⟩,
    ⟨1, [0xD6, 0x40], [.reg .a 0x3E, .f 0x00], 8, [.reg .a 0xFE, .f 0x50, .pc 0xC002]⟩,
    ⟨1, [0xDE, 0x2A], [.reg .a 0x3B, .f 0x10], 8, [.reg .a 0x10, .f 0x40, .pc 0xC002]⟩,
    ⟨1, [0xDE, 0x00], [.reg .a 0x00, .f 0x10], 8, [.reg .a 0xFF, .f 0x70, .pc 0xC002]⟩] : List Vector95).all (Vector95.ok) = true := by decide

/-- 95_test_vectors.md, AL13 to AL24 (42_alu8.md). -/
theorem test_alu8_al13_to_al24 : ([
    ⟨1, [0xDE, 0xFF], [.reg .a 0x10, .f 0x10], 8, [.reg .a 0x10, .f 0x70, .pc 0xC002]⟩,
    ⟨1, [0x9F], [.reg .a 0x5A, .f 0x10], 4, [.reg .a 0xFF, .f 0x70, .pc 0xC001]⟩,
    ⟨1, [0xE6, 0x3F], [.reg .a 0x5A, .f 0x10], 8, [.reg .a 0x1A, .f 0x20, .pc 0xC002]⟩,
    ⟨1, [0xE6, 0xA5], [.reg .a 0x5A, .f 0x00], 8, [.reg .a 0x00, .f 0xA0, .pc 0xC002]⟩,
    ⟨1, [0xAF], [.reg .a 0x5A, .f 0xF0], 4, [.reg .a 0x00, .f 0x80, .pc 0xC001]⟩,
    ⟨1, [0xF6, 0x03], [.reg .a 0x5A, .f 0xF0], 8, [.reg .a 0x5B, .f 0x00, .pc 0xC002]⟩,
    ⟨1, [0xB0], [.reg .a 0x00, .reg .b 0x00, .f 0x70], 4, [.reg .a 0x00, .f 0x80, .pc 0xC001]⟩,
    ⟨1, [0xFE, 0x2F], [.reg .a 0x3C, .f 0x00], 8, [.reg .a 0x3C, .f 0x60, .pc 0xC002]⟩,
    ⟨1, [0xFE, 0x3C], [.reg .a 0x3C, .f 0x00], 8, [.reg .a 0x3C, .f 0xC0, .pc 0xC002]⟩,
    ⟨1, [0xFE, 0x40], [.reg .a 0x3C, .f 0x00], 8, [.reg .a 0x3C, .f 0x50, .pc 0xC002]⟩,
    ⟨1, [0xBE], [.reg .a 0x3C, .pair .hl 0xD000, .f 0x00, .mem 0xD000 0x3C], 8,
      [.reg .a 0x3C, .f 0xC0, .pc 0xC001]⟩,
    ⟨1, [0x3C], [.reg .a 0xFF, .f 0x10], 4, [.reg .a 0x00, .f 0xB0, .pc 0xC001]⟩] : List Vector95).all (Vector95.ok) = true := by decide

/-- 95_test_vectors.md, AL25 to AL34 (42_alu8.md). -/
theorem test_alu8_al25_to_al34 : ([
    ⟨1, [0x04], [.reg .b 0x0F, .f 0x00], 4, [.reg .a 0x01, .f 0x20, .pair .bc 0x1013, .pc 0xC001]⟩,
    ⟨1, [0x0D], [.reg .c 0x01, .f 0x10], 4, [.reg .a 0x01, .f 0xD0, .pair .bc 0x0000, .pc 0xC001]⟩,
    ⟨1, [0x15], [.reg .d 0x00, .f 0x00], 4, [.reg .a 0x01, .f 0x60, .pair .de 0xFFD8, .pc 0xC001]⟩,
    ⟨1, [0x1D], [.reg .e 0x10, .f 0x80], 4, [.reg .a 0x01, .f 0x60, .pair .de 0x000F, .pc 0xC001]⟩,
    ⟨1, [0x34], [.pair .hl 0xD000, .f 0x00, .mem 0xD000 0x7F], 12,
      [.reg .a 0x01, .f 0x20, .pc 0xC001, .mem 0xD000 0x80]⟩,
    ⟨1, [0x35], [.pair .hl 0xD000, .f 0x10, .mem 0xD000 0x00], 12,
      [.reg .a 0x01, .f 0x70, .pc 0xC001, .mem 0xD000 0xFF]⟩,
    ⟨1, [0x2F], [.reg .a 0x35, .f 0x00], 4, [.reg .a 0xCA, .f 0x60, .pc 0xC001]⟩,
    ⟨1, [0x37], [.f 0xE0], 4, [.reg .a 0x01, .f 0x90, .pc 0xC001]⟩,
    ⟨1, [0x3F], [.f 0x70], 4, [.reg .a 0x01, .f 0x00, .pc 0xC001]⟩,
    ⟨1, [0x3F], [.f 0x80], 4, [.reg .a 0x01, .f 0x90, .pc 0xC001]⟩] : List Vector95).all (Vector95.ok) = true := by decide

/-- 95_test_vectors.md, DA1 to DA10 (42_alu8.md R278). -/
theorem test_daa_da1_to_da10 : ([
    ⟨2, [0xC6, 0x38, 0x27], [.reg .a 0x45, .f 0x00], 12, [.reg .a 0x83, .f 0x00, .pc 0xC003]⟩,
    ⟨2, [0xC6, 0x01, 0x27], [.reg .a 0x99, .f 0x00], 12, [.reg .a 0x00, .f 0x90, .pc 0xC003]⟩,
    ⟨2, [0xC6, 0x28, 0x27], [.reg .a 0x19, .f 0x00], 12, [.reg .a 0x47, .f 0x00, .pc 0xC003]⟩,
    ⟨2, [0xC6, 0x90, 0x27], [.reg .a 0x90, .f 0x00], 12, [.reg .a 0x80, .f 0x10, .pc 0xC003]⟩,
    ⟨2, [0xD6, 0x01, 0x27], [.reg .a 0x10, .f 0x00], 12, [.reg .a 0x09, .f 0x40, .pc 0xC003]⟩,
    ⟨2, [0xD6, 0x01, 0x27], [.reg .a 0x00, .f 0x00], 12, [.reg .a 0x99, .f 0x50, .pc 0xC003]⟩,
    ⟨1, [0x27], [.reg .a 0xFF, .f 0x00], 4, [.reg .a 0x65, .f 0x10, .pc 0xC001]⟩,
    ⟨1, [0x27], [.reg .a 0x00, .f 0x00], 4, [.reg .a 0x00, .f 0x80, .pc 0xC001]⟩,
    ⟨1, [0x27], [.reg .a 0x9A, .f 0x00], 4, [.reg .a 0x00, .f 0x90, .pc 0xC001]⟩,
    ⟨1, [0x27], [.reg .a 0x00, .f 0x70], 4, [.reg .a 0x9A, .f 0x50, .pc 0xC001]⟩] : List Vector95).all (Vector95.ok) = true := by decide

/-- 95_test_vectors.md, AW1 to AW10 (43_alu16.md). -/
theorem test_alu16_aw1_to_aw10 : ([
    ⟨1, [0x09], [.pair .hl 0x8A23, .pair .bc 0x0605, .f 0x80], 8,
      [.reg .a 0x01, .f 0xA0, .pair .hl 0x9028, .pc 0xC001]⟩,
    ⟨1, [0x29], [.pair .hl 0x8A23, .f 0x00], 8, [.reg .a 0x01, .f 0x30, .pair .hl 0x1446, .pc 0xC001]⟩,
    ⟨1, [0x19], [.pair .hl 0xFFFF, .pair .de 0x0001, .f 0x80], 8,
      [.reg .a 0x01, .f 0xB0, .pair .hl 0x0000, .pc 0xC001]⟩,
    ⟨1, [0x39], [.pair .hl 0x1000, .pair .sp 0x0FFF, .f 0x00], 8,
      [.reg .a 0x01, .f 0x00, .pair .hl 0x1FFF, .pc 0xC001]⟩,
    ⟨1, [0x03], [.pair .bc 0xFFFF, .f 0xB0], 8, [.reg .a 0x01, .f 0xB0, .pair .bc 0x0000, .pc 0xC001]⟩,
    ⟨1, [0x3B], [.pair .sp 0x0000, .f 0x00], 8, [.reg .a 0x01, .f 0x00, .pair .sp 0xFFFF, .pc 0xC001]⟩,
    ⟨1, [0xE8, 0x02], [.pair .sp 0xFFF8, .f 0xF0], 16, [.reg .a 0x01, .f 0x00, .pair .sp 0xFFFA, .pc 0xC002]⟩,
    ⟨1, [0xE8, 0x01], [.pair .sp 0xFFFF, .f 0x00], 16, [.reg .a 0x01, .f 0x30, .pair .sp 0x0000, .pc 0xC002]⟩,
    ⟨1, [0xE8, 0x80], [.pair .sp 0x00FF, .f 0x00], 16, [.reg .a 0x01, .f 0x10, .pair .sp 0x007F, .pc 0xC002]⟩,
    ⟨1, [0xE8, 0xF1], [.pair .sp 0xD00F, .f 0x00], 16, [.reg .a 0x01, .f 0x30, .pair .sp 0xD000, .pc 0xC002]⟩] : List Vector95).all (Vector95.ok) = true := by decide

/-- 95_test_vectors.md, RS1 to RS12 (44_rotate_shift.md). -/
theorem test_rotate_shift_rs1_to_rs12 : ([
    ⟨1, [0x07], [.reg .a 0x85, .f 0x00], 4, [.reg .a 0x0B, .f 0x10, .pc 0xC001]⟩,
    ⟨1, [0x07], [.reg .a 0x00, .f 0x80], 4, [.reg .a 0x00, .f 0x00, .pc 0xC001]⟩,
    ⟨1, [0x0F], [.reg .a 0x3B, .f 0x00], 4, [.reg .a 0x9D, .f 0x10, .pc 0xC001]⟩,
    ⟨1, [0x17], [.reg .a 0x95, .f 0x10], 4, [.reg .a 0x2B, .f 0x10, .pc 0xC001]⟩,
    ⟨1, [0x1F], [.reg .a 0x81, .f 0x00], 4, [.reg .a 0x40, .f 0x10, .pc 0xC001]⟩,
    ⟨1, [0x1F], [.reg .a 0x01, .f 0x00], 4, [.reg .a 0x00, .f 0x10, .pc 0xC001]⟩,
    ⟨1, [0xCB, 0x00], [.reg .b 0x85, .f 0x00], 8, [.reg .a 0x01, .f 0x10, .pair .bc 0x0B13, .pc 0xC002]⟩,
    ⟨1, [0xCB, 0x06], [.pair .hl 0xD000, .f 0x00, .mem 0xD000 0x00], 16, [.reg .a 0x01, .f 0x80, .pc 0xC002]⟩,
    ⟨1, [0xCB, 0x09], [.reg .c 0x01, .f 0x00], 8, [.reg .a 0x01, .f 0x10, .pair .bc 0x0080, .pc 0xC002]⟩,
    ⟨1, [0xCB, 0x12], [.reg .d 0x80, .f 0x00], 8, [.reg .a 0x01, .f 0x90, .pair .de 0x00D8, .pc 0xC002]⟩,
    ⟨1, [0xCB, 0x12], [.reg .d 0x80, .f 0x10], 8, [.reg .a 0x01, .f 0x10, .pair .de 0x01D8, .pc 0xC002]⟩,
    ⟨1, [0xCB, 0x1B], [.reg .e 0x01, .f 0x00], 8, [.reg .a 0x01, .f 0x90, .pair .de 0x0000, .pc 0xC002]⟩] : List Vector95).all (Vector95.ok) = true := by decide

/-- 95_test_vectors.md, RS13 to RS22 (44_rotate_shift.md). -/
theorem test_rotate_shift_rs13_to_rs22 : ([
    ⟨1, [0xCB, 0x1E], [.pair .hl 0xD000, .f 0x10, .mem 0xD000 0x8A], 16,
      [.reg .a 0x01, .f 0x00, .pc 0xC002, .mem 0xD000 0xC5]⟩,
    ⟨1, [0xCB, 0x24], [.reg .h 0x80, .f 0x00], 8, [.reg .a 0x01, .f 0x90, .pair .hl 0x004D, .pc 0xC002]⟩,
    ⟨1, [0xCB, 0x25], [.reg .l 0x41, .f 0x10], 8, [.reg .a 0x01, .f 0x00, .pair .hl 0x0182, .pc 0xC002]⟩,
    ⟨1, [0xCB, 0x2F], [.reg .a 0x8A, .f 0x00], 8, [.reg .a 0xC5, .f 0x00, .pc 0xC002]⟩,
    ⟨1, [0xCB, 0x2F], [.reg .a 0x01, .f 0x00], 8, [.reg .a 0x00, .f 0x90, .pc 0xC002]⟩,
    ⟨1, [0xCB, 0x37], [.reg .a 0xF0, .f 0x10], 8, [.reg .a 0x0F, .f 0x00, .pc 0xC002]⟩,
    ⟨1, [0xCB, 0x37], [.reg .a 0x00, .f 0x70], 8, [.reg .a 0x00, .f 0x80, .pc 0xC002]⟩,
    ⟨1, [0xCB, 0x36], [.pair .hl 0xD000, .f 0x00, .mem 0xD000 0xAB], 16,
      [.reg .a 0x01, .f 0x00, .pc 0xC002, .mem 0xD000 0xBA]⟩,
    ⟨1, [0xCB, 0x38], [.reg .b 0x01, .f 0x00], 8, [.reg .a 0x01, .f 0x90, .pair .bc 0x0013, .pc 0xC002]⟩,
    ⟨1, [0xCB, 0x3F], [.reg .a 0xFF, .f 0x00], 8, [.reg .a 0x7F, .f 0x10, .pc 0xC002]⟩] : List Vector95).all (Vector95.ok) = true := by decide

/-- 95_test_vectors.md, BT1 to BT8 (45_bit.md). -/
theorem test_bit_bt1_to_bt8 : ([
    ⟨1, [0xCB, 0x7C], [.reg .h 0x80, .f 0x10], 8, [.reg .a 0x01, .f 0x30, .pc 0xC002]⟩,
    ⟨1, [0xCB, 0x47], [.reg .a 0x00, .f 0x00], 8, [.reg .a 0x00, .f 0xA0, .pc 0xC002]⟩,
    ⟨1, [0xCB, 0x40], [.reg .b 0xFE, .f 0x50], 8, [.reg .a 0x01, .f 0xB0, .pc 0xC002]⟩,
    ⟨1, [0xCB, 0x5E], [.pair .hl 0xD000, .f 0x00, .mem 0xD000 0x08], 12, [.reg .a 0x01, .f 0x20, .pc 0xC002]⟩,
    ⟨1, [0xCB, 0xBF], [.reg .a 0x80, .f 0xF0], 8, [.reg .a 0x00, .f 0xF0, .pc 0xC002]⟩,
    ⟨1, [0xCB, 0x86], [.pair .hl 0xD000, .f 0x00, .mem 0xD000 0xFF], 16,
      [.reg .a 0x01, .f 0x00, .pc 0xC002, .mem 0xD000 0xFE]⟩,
    ⟨1, [0xCB, 0xF8], [.reg .b 0x00, .f 0x00], 8, [.reg .a 0x01, .f 0x00, .pair .bc 0x8013, .pc 0xC002]⟩,
    ⟨1, [0xCB, 0xDE], [.pair .hl 0xD000, .f 0x00, .mem 0xD000 0x00], 16,
      [.reg .a 0x01, .f 0x00, .pc 0xC002, .mem 0xD000 0x08]⟩] : List Vector95).all (Vector95.ok) = true := by decide

/-- 95_test_vectors.md, CT1 to CT12 (46_control.md). -/
theorem test_control_ct1_to_ct12 : ([
    ⟨1, [0xC3, 0x34, 0x12], [.f 0x00], 16, [.reg .a 0x01, .f 0x00, .pc 0x1234]⟩,
    ⟨1, [0xC2, 0x00, 0xD0], [.f 0x00], 16, [.reg .a 0x01, .f 0x00, .pc 0xD000]⟩,
    ⟨1, [0xC2, 0x00, 0xD0], [.f 0x80], 12, [.reg .a 0x01, .f 0x80, .pc 0xC003]⟩,
    ⟨1, [0xDA, 0x00, 0xD0], [.f 0x10], 16, [.reg .a 0x01, .f 0x10, .pc 0xD000]⟩,
    ⟨1, [0xE9], [.pair .hl 0xD123, .f 0x00], 4, [.reg .a 0x01, .f 0x00, .pc 0xD123]⟩,
    ⟨1, [0x18, 0xFE], [.f 0x00], 12, [.reg .a 0x01, .f 0x00]⟩,
    ⟨1, [0x18, 0x7F], [.f 0x00], 12, [.reg .a 0x01, .f 0x00, .pc 0xC081]⟩,
    ⟨1, [0x18, 0x80], [.f 0x00], 12, [.reg .a 0x01, .f 0x00, .pc 0xBF82]⟩,
    ⟨1, [0x28, 0x05], [.f 0x80], 12, [.reg .a 0x01, .f 0x80, .pc 0xC007]⟩,
    ⟨1, [0x28, 0x05], [.f 0x00], 8, [.reg .a 0x01, .f 0x00, .pc 0xC002]⟩,
    ⟨1, [0x30, 0xFC], [.f 0x00], 12, [.reg .a 0x01, .f 0x00, .pc 0xBFFE]⟩,
    ⟨1, [0xCD, 0x00, 0xD0], [.pair .sp 0xDFFE, .f 0x00], 24,
      [.reg .a 0x01, .f 0x00, .pair .sp 0xDFFC, .pc 0xD000, .mem 0xDFFC 0x03, .mem 0xDFFD 0xC0]⟩] : List Vector95).all (Vector95.ok) = true := by decide

/-- 95_test_vectors.md, CT13 to CT20 (46_control.md). -/
theorem test_control_ct13_to_ct20 : ([
    ⟨1, [0xD4, 0x00, 0xD0], [.pair .sp 0xDFFE, .f 0x10], 12, [.reg .a 0x01, .f 0x10, .pc 0xC003]⟩,
    ⟨1, [0xCC, 0x00, 0xD0], [.pair .sp 0xDFFE, .f 0x80], 24,
      [.reg .a 0x01, .f 0x80, .pair .sp 0xDFFC, .pc 0xD000, .mem 0xDFFC 0x03, .mem 0xDFFD 0xC0]⟩,
    ⟨1, [0xC9], [.pair .sp 0xDFFC, .f 0x00, .mem 0xDFFC 0x03, .mem 0xDFFD 0xC0], 16,
      [.reg .a 0x01, .f 0x00, .pair .sp 0xDFFE, .pc 0xC003]⟩,
    ⟨1, [0xC8], [.pair .sp 0xDFFC, .f 0x00, .mem 0xDFFC 0x03, .mem 0xDFFD 0xC0], 8,
      [.reg .a 0x01, .f 0x00, .pc 0xC001]⟩,
    ⟨1, [0xC0], [.pair .sp 0xDFFC, .f 0x00, .mem 0xDFFC 0x34, .mem 0xDFFD 0x12], 20,
      [.reg .a 0x01, .f 0x00, .pair .sp 0xDFFE, .pc 0x1234]⟩,
    ⟨1, [0xD9], [.pair .sp 0xDFFC, .ime false, .f 0x00, .mem 0xDFFC 0x34, .mem 0xDFFD 0x12], 16,
      [.reg .a 0x01, .f 0x00, .pair .sp 0xDFFE, .pc 0x1234, .ime true]⟩,
    ⟨1, [0xFF], [.pair .sp 0xDFFE, .f 0x00], 16,
      [.reg .a 0x01, .f 0x00, .pair .sp 0xDFFC, .pc 0x0038, .mem 0xDFFC 0x01, .mem 0xDFFD 0xC0]⟩,
    ⟨1, [0xD7], [.pair .sp 0xDFFE, .f 0x00], 16,
      [.reg .a 0x01, .f 0x00, .pair .sp 0xDFFC, .pc 0x0010, .mem 0xDFFC 0x01, .mem 0xDFFD 0xC0]⟩] : List Vector95).all (Vector95.ok) = true := by decide

/-- 95_test_vectors.md, SY1 to SY11 (47_system.md). -/
theorem test_system_sy1_to_sy11 : ([
    ⟨1, [0x00], [.f 0x00], 4, [.reg .a 0x01, .f 0x00, .pc 0xC001]⟩,
    ⟨1, [0x76], [.f 0x00], 4, [.reg .a 0x01, .f 0x00, .pc 0xC001, .halted true]⟩,
    ⟨3, [0x00], [.f 0x00, .halted true], 12, [.reg .a 0x01, .f 0x00]⟩,
    ⟨1, [0x10, 0x00], [.f 0x00], 4, [.reg .a 0x01, .f 0x00, .pc 0xC002]⟩,
    ⟨1, [0xF3], [.f 0x00, .ime true], 4, [.reg .a 0x01, .f 0x00, .pc 0xC001, .ime false]⟩,
    ⟨1, [0xFB], [.f 0x00, .ime false], 4, [.reg .a 0x01, .f 0x00, .pc 0xC001, .ei true]⟩,
    ⟨1, [0xDD], [.f 0x00], 4, [.reg .a 0x01, .f 0x00, .pc 0xC001]⟩,
    ⟨1, [0xCB, 0x37], [.reg .a 0x12, .f 0x00], 8, [.reg .a 0x21, .f 0x00, .pc 0xC002]⟩] : List Vector95).all (Vector95.ok) = true := by decide

/-- 95_test_vectors.md, SY3 to SY9 (47_system.md). -/
theorem test_system_sy3_to_sy9 : ([
    ⟨1, [0x00], [.f 0x00, .halted true, .ime false, .mem 0xFFFF 0x04, .mem 0xFF0F 0xE4], 4,
      [.reg .a 0x01, .f 0x00, .pc 0xC001, .halted false, .divAcc 4]⟩,
    ⟨3, [0xFB, 0x00, 0x00], [.f 0x00, .ime false, .mem 0xFFFF 0x01, .mem 0xFF0F 0xE1], 32,
      [.reg .a 0x01, .f 0x00, .pair .sp 0xFFFC, .pc 0x0041, .divAcc 32, .mem 0xFF0F 0xE0, .mem 0xFFFC 0x02, .mem 0xFFFD 0xC0]⟩,
    ⟨3, [0xFB, 0xF3, 0x00], [.f 0x00, .ime false, .mem 0xFFFF 0x01, .mem 0xFF0F 0xE1], 12,
      [.reg .a 0x01, .f 0x00, .pc 0xC003, .divAcc 12]⟩] : List Vector95).all (Vector95.okMachine) = true := by decide

/-- 95_test_vectors.md, IN1 to IN6 (60_exceptions.md R402 to R412). -/
theorem test_interrupts_in1_to_in6 : ([
    ⟨1, [0x00], [.f 0x00, .ime true, .pair .sp 0xDFFE, .mem 0xFFFF 0x1F, .mem 0xFF0F 0xE6], 24,
      [.reg .a 0x01, .f 0x00, .pair .sp 0xDFFC, .pc 0x0049, .ime false, .divAcc 24, .mem 0xDFFD 0xC0, .mem 0xFF0F 0xE4]⟩,
    ⟨1, [0x00], [.f 0x00, .ime true, .pair .sp 0xDFFE, .mem 0xFFFF 0x10, .mem 0xFF0F 0xF0], 24,
      [.reg .a 0x01, .f 0x00, .pair .sp 0xDFFC, .pc 0x0061, .ime false, .divAcc 24, .mem 0xDFFD 0xC0, .mem 0xFF0F 0xE0]⟩,
    ⟨1, [0x00], [.f 0x00, .ime true, .pair .sp 0xDFFE, .mem 0xFFFF 0x02, .mem 0xFF0F 0xE4], 4,
      [.reg .a 0x01, .f 0x00, .pc 0xC001, .divAcc 4]⟩,
    ⟨1, [0x00], [.f 0x00, .ime true, .pair .sp 0xDFFE, .mem 0xFFFF 0xE0, .mem 0xFF0F 0xFF], 4,
      [.reg .a 0x01, .f 0x00, .pc 0xC001, .divAcc 4]⟩,
    ⟨1, [0x00], [.f 0x00, .ime true, .pair .sp 0x0001, .mem 0xFFFF 0x01, .mem 0xFF0F 0xE1], 24,
      [.reg .a 0x01, .f 0x00, .pair .sp 0xFFFF, .pc 0x0041, .ime false, .divAcc 24, .mem 0xFF0F 0xE0, .mem 0xFFFF 0x00]⟩,
    ⟨1, [0x00], [.f 0x00, .ime true, .halted true, .pair .sp 0xDFFE, .mem 0xFFFF 0x04, .mem 0xFF0F 0xE4], 24,
      [.reg .a 0x01, .f 0x00, .pair .sp 0xDFFC, .pc 0x0051, .ime false, .halted false, .divAcc 24, .mem 0xDFFD 0xC0, .mem 0xFF0F 0xE0]⟩] : List Vector95).all (Vector95.okMachine) = true := by decide

/-! ### The device vectors of 95_test_vectors.md -/

/-- The reset state with bytes of MEM changed. -/
def withMem (s : State) (l : List (Nat × Byte)) : State := l.foldl (fun t c => t.setMem c.1 c.2) s

def timerState (tac tima tma : Byte) (timaAcc : Nat) : State :=
  let s := withMem State.reset [(0xFF07, tac), (0xFF05, tima), (0xFF06, tma), (0xFF0F, 0xE0)]
  { s with timer := { s.timer with timaAcc := timaAcc } }

/-- TIMA, IF, div, div_acc and tima_acc. -/
def timerView (s : State) : Byte × Byte × Byte × Nat × Nat :=
  (s.mem 0xFF05, s.mem 0xFF0F, s.timer.div, s.timer.divAcc, s.timer.timaAcc)

/-- TM1, TM2, TM11, TM12, TM13. -/
theorem test_timer_tima :
    [(timerState 0x05 0xFF 0x42 0).tick 16, (timerState 0x05 0xFE 0x42 0).tick 16, (timerState 0x05 0x00 0x00 1000).tick 4,
      (timerState 0x05 0xFF 0x00 0).tick 48, (timerState 0x05 0xFE 0xFE 0).tick 64].map timerView =
    [(0x42, 0xE4, 0x00, 16, 0), (0xFF, 0xE0, 0x00, 16, 0), (0x3E, 0xE0, 0x00, 4, 12), (0x02, 0xE4, 0x00, 48, 0),
      (0xFE, 0xE4, 0x00, 64, 0)] := by decide +kernel

/-- TM3 to TM7, TM10. -/
theorem test_timer_rates :
    [(timerState 0x04 0x00 0x00 0).tick 1023, (timerState 0x04 0x00 0x00 0).tick 1024,
      (((timerState 0x06 0x00 0x00 0).tick 64).tick 64).tick 63, (timerState 0x07 0x00 0x00 0).tick 768,
      (timerState 0x01 0x10 0x00 0).tick 4096, (timerState 0x00 0x00 0x00 0).tick 65544].map timerView =
    [(0x00, 0xE0, 0x03, 255, 1023), (0x01, 0xE0, 0x04, 0, 0), (0x02, 0xE0, 0x00, 191, 63), (0x03, 0xE0, 0x03, 0, 0),
      (0x10, 0xE0, 0x10, 0, 0), (0x00, 0xE0, 0x00, 8, 0)] := by decide +kernel

def joypadAfter (p controls : Byte) : Byte :=
  State.memRead { State.reset.memWrite 0xFF00 p with controls := controls } 0xFF00

/-- JY1 to JY4. -/
theorem test_joypad_read :
    [joypadAfter 0x20 0xFE, joypadAfter 0x10 0x7F, joypadAfter 0x00 0xE7, joypadAfter 0x30 0x00] =
      [0xEE, 0xD7, 0xC6, 0xFF] := by decide

/-- JY6: a second press of a held button requests nothing new. -/
theorem test_joypad_press : let s := (withMem State.reset [(0xFF0F, 0xE0)]).press 4
    s.mem 0xFF0F = 0xF0 ∧ (s.press 4).mem 0xFF0F = 0xF0 ∧ (s.press 4).controls = 0xEF := by decide

/-- The 8-bank ROM of BK1 to BK7: byte 0 of bank b holds b, its last byte 0x80 | b. -/
def bankRom : State := State.loaded Config.defaults
  { size := 0x20000
    bytes := (List.range 8).flatMap fun b => [(b * 0x4000, BitVec.ofNat 8 b), (b * 0x4000 + 0x3FFF, BitVec.ofNat 8 (0x80 + b))] }
  noDraws

/-- rom_bank_lo, bank_hi, bank_mode, and the bytes at 0x4000, 0x7FFF and 0. -/
def bankView (l : List (Word × Byte)) : BitVec 5 × BitVec 2 × BitVec 1 × Byte × Byte × Byte :=
  let s := l.foldl (fun t c => State.memWrite t c.1 c.2) bankRom
  (s.cart.romBankLo, s.cart.bankHi, s.cart.bankMode, s.memRead 0x4000, s.memRead 0x7FFF, s.memRead 0x0000)

/-- BK1 to BK4. -/
theorem test_bank_low :
    [[(0x2100, 0x05)], [(0x2000, 0x00)], [(0x3FFF, 0x20)], [(0x2000, 0xE7)]].map bankView =
    [(5, 0, 0, 0x05, 0x85, 0x00), (1, 0, 0, 0x01, 0x81, 0x00), (1, 0, 0, 0x01, 0x81, 0x00),
      (7, 0, 0, 0x07, 0x87, 0x00)] := by decide +kernel

/-- BK5 to BK7. -/
theorem test_bank_high_and_mode :
    [[(0x2000, 0x02), (0x4000, 0x01)], [(0x2000, 0x03), (0x6000, 0x01)], [(0x1000, 0x05)]].map bankView =
    [(2, 1, 0, 0x02, 0x82, 0x00), (3, 0, 1, 0x03, 0x83, 0x00), (1, 0, 0, 0x01, 0x81, 0x00)] := by decide +kernel

/-- DV2: OAM DMA reads the active ROM bank. -/
theorem test_oam_dma_bank : ((bankRom.memWrite 0x2000 3).memWrite 0xFF46 0x40).mem 0xFE00 = 0x03 := by
  decide +kernel

/-- DV3, DV4, DV5. -/
theorem test_stat_ly_serial :
    (State.reset.memWrite 0xFF41 0xFF).mem 0xFF41 = 0xFD ∧
    ((State.reset.memWrite 0xFF41 0xFF).memWrite 0xFF41 0x00).mem 0xFF41 = 0x85 ∧
    ((withMem State.reset [(0xFF44, 0x45)]).memWrite 0xFF44 0x00).mem 0xFF44 = 0x45 ∧
    (let s := (State.reset.memWrite 0xFF01 0x41).memWrite 0xFF02 0x81
     s.hostSide.serialOut = [0x41] ∧ s.mem 0xFF01 = 0x41 ∧ s.mem 0xFF02 = 0x81 ∧ s.mem 0xFF0F = 0xE1) := by decide

/-- The common setup of the PX rows. -/
def pxSetup : List (Nat × Byte) :=
  [(0xFF40, 0x91), (0xFF47, 0xE4), (0xFF48, 0xE4), (0xFF49, 0x1B), (0x8000, 0x55), (0x8001, 0x33), (0x8010, 0xFF),
   (0x9000, 0x0F), (0x9001, 0xFF), (0x8FF0, 0xF0), (0x8FF1, 0x0F)]

/-- Pixels 0 to n - 1 of line `l` in DMG mode. -/
def pixels (l n : Nat) (extra : List (Nat × Byte)) : List Nat :=
  let s := (withMem (withMem State.reset pxSetup) extra).takeSnapshot
  (List.range n).map fun px => (s.dmgPixel px l).toNat

/-- PX1, PX3, PX4, PX6, PX7. -/
theorem test_px_background :
    pixels 0 8 [] = [0, 1, 2, 3, 0, 1, 2, 3] ∧ pixels 0 8 [(0xFF43, 2)] = [2, 3, 0, 1, 2, 3, 0, 1] ∧
    pixels 0 8 [(0xFF40, 0x81)] = [2, 2, 2, 2, 3, 3, 3, 3] ∧
    pixels 0 8 [(0x9800, 0xFF), (0xFF40, 0x81)] = [1, 1, 1, 1, 2, 2, 2, 2] ∧
    pixels 0 8 [(0xFF40, 0x90)] = [0, 0, 0, 0, 0, 0, 0, 0] := by decide

/-- PX9, PX12. -/
theorem test_px_sprites :
    pixels 0 8 [(0xFF40, 0x93), (0xFE00, 16), (0xFE01, 8), (0xFE02, 1), (0xFE03, 0x80)] = [1, 1, 2, 3, 1, 1, 2, 3] ∧
    pixels 0 12 [(0xFF40, 0x93), (0xFF48, 0x1B), (0xFE00, 16), (0xFE01, 10), (0xFE03, 0x20)] =
      [0, 1, 0, 1, 2, 1, 0, 1, 2, 1, 2, 3] := by decide

/-- PX14, PX17. -/
theorem test_px_window :
    pixels 0 12 [(0xFF40, 0xF1), (0xFF4B, 11), (0x9C00, 1)] = [0, 1, 2, 3, 1, 1, 1, 1, 1, 1, 1, 1] ∧
    pixels 1 8 [(0xFF40, 0xF1), (0xFF4B, 7), (0xFF4A, 1), (0x9C00, 1), (0x8013, 0xFF)] =
      [1, 1, 1, 1, 1, 1, 1, 1] := by decide

/-! ### One instruction placed and run from reset (log entry 20) -/

/-- What a step answers, seen by `f`. -/
def after1 {α : Type} (s : State) (f : State → α) : Option α :=
  match step s with
  | .next t => some (f t)
  | _ => none

/-- `INC B` (04) is the first instruction after reset. -/
theorem test_first_instruction :
    after1 (State.reset.withFetchWord 8 0x04) (fun t => (t.cpu.b, t.cpu.pc, t.stepCycles)) = some (0x01, 0x0101, 4) := by
  decide

/-- `LD BC,0x1234` (01 34 12), numbered with its first byte lowest. -/
theorem test_first_instruction_three_bytes : decodeTableWord 24 0x123401 = some (.ldBCD16 0x1234) ∧
    after1 (State.reset.withFetchWord 24 0x123401) (fun t => (t.getPair .bc, t.cpu.pc)) = some (0x1234, 0x0103) := by
  decide

/-- `SWAP A` (CB 37), numbered as the table does: match 0xCB37. -/
theorem test_first_instruction_cb : decodeTableWord 16 0xCB37 = some .swapA ∧
    after1 (State.reset.withFetchWord 16 0xCB37) (fun t => (t.cpu.a, t.cpu.pc)) = some (0x10, 0x0102) := by decide

/-- The first step after reset begins line 0 and charges its instruction to that line's 80 cycles (R471, R470). -/
theorem test_first_step : after1 State.reset (fun t => (t.driver.phase, t.driver.cycleBalance, t.mem 0xFF41)) =
    some (.oam 0, 76, 0x86) := by decide

/-! ### Witnesses: a state and operands that meet the hypotheses of each obligation, clause by clause -/

/-- The reset state with F = 0, so that every flag is clear. -/
def plainState : State := State.reset.setF 0

/-- The reset state of CGB mode. -/
def cgbState : State :=
  State.loaded { Config.defaults with colorMode := .cgb } blankRom noDraws

/-- The reset state with `DIV_READ = draw`. -/
def drawState : State := { State.reset with params := { State.reset.params with divRead := .draw } }

/-- The reset state with other parameters. -/
def withParams (p : Params) : State := { State.reset with params := p }

/-- The reset state with source `i` enabled and flagged. -/
def pendingState (ie ifl : Byte) (ime ei halted : Bool) : State :=
  let s := withMem State.reset [(0xFFFF, ie), (0xFF0F, ifl)]
  { s with cpu := { s.cpu with ime := ime, eiPending := ei, halted := halted } }

/-- The reset state with the driver at a position. -/
def atPhase (p : Phase) (balance : Int) : State :=
  { State.reset with driver := { State.reset.driver with phase := p, cycleBalance := balance } }

theorem witness_DecodeEncodeRoundTrip : (Instr.ldBCD16 0xFFFF).wellFormed = true ∧
    (Instr.illegal 0xD3).wellFormed = true ∧ (Instr.illegal 0xFD).wellFormed = true := by decide

theorem witness_DecodedInstructionEncodesBack : 3 ≤ [0x01#8, 0x34#8, 0x12#8].length ∧
    decode [0x01, 0x34, 0x12] = .ok (.ldBCD16 0x1234, []) := ⟨by decide, rfl⟩

theorem witness_FetchAdvancesPcByLength : State.reset.params.divRead = .counter := by decide

theorem witness_StepRunsDecodedInstruction :
    hostTurn { State.reset with stepCycles := 0 } = .next State.reset ∧
    0 < State.reset.driverTurn.driver.cycleBalance ∧
    State.reset.driverTurn.beginStep.cpu.halted = false ∧
    (let b := State.reset.driverTurn.beginStep
     decode [b.memRead b.cpu.pc, b.memRead (b.cpu.pc + 1), b.memRead (b.cpu.pc + 2)] = .ok (.nop, [0, 0])) :=
  ⟨rfl, by decide, by decide, rfl⟩

/-- Whether an outcome is a next state. -/
def isNext : Result → Bool
  | .next _ => true
  | _ => false

theorem exists_next {r : Result} (h : isNext r = true) : ∃ t, r = .next t := by
  cases r with
  | next t => exact ⟨t, rfl⟩
  | fault e => cases h
  | refused e => cases h

theorem untouched {l : List Word} {f : Word → Bool} (h : (l.all fun a => !f a) = true) : ∀ a ∈ l, f a = false := by
  intro a ha
  have := List.all_eq_true.mp h a ha
  simpa using this

theorem witness_StepKeepsInvariant : State.reset.Inv ∧ ∃ t, step State.reset = .next t :=
  ⟨by decide, exists_next (by decide +kernel)⟩

/-- The same with host calls landing at the boundary. -/
theorem witness_StepKeepsInvariant_host :
    let s := { State.reset with hostSide := { State.reset.hostSide with
      schedule := [[.press 0, .saveState, .releaseAll], []] } }
    State.Inv s ∧ ∃ t, step s = .next t := ⟨by decide, exists_next (by decide +kernel)⟩

theorem witness_EveryInstructionCompletesAtItsCost : Instr.nop.wellFormed = true ∧
    ∃ cbop, Instr.prefixCB 0x37 = .prefixCB cbop := ⟨by decide, 0x37, rfl⟩

theorem witness_StepGoesOnWithoutHostCalls : State.reset.noHostCall ∧
    State.noHostCall { State.reset with hostSide := { State.reset.hostSide with schedule := [[], [.press 0]] } } :=
  ⟨rfl, rfl⟩

theorem witness_ExecLeavesOtherBlocksUnchanged : ∃ t, exec (.ldIndA16A 0xFF46) State.reset = .next t :=
  exists_next (by decide +kernel)

theorem witness_RegisterFrame : (∃ t, exec .incB State.reset = .next t) ∧ Reg8.a ∉ destRegs .incB ∧
    spOpcodes.contains ((encode .incB).headD 0) = false ∧ Instr.incB ≠ .di ∧ Instr.incB ≠ .ei ∧ Instr.incB ≠ .reti ∧
    Instr.incB ≠ .halt := ⟨exists_next (by decide +kernel), by decide⟩

/-- The unassigned opcodes with `ILLEGAL_OPCODE = nop` are under the clause too. -/
theorem witness_RegisterFrame_illegal : (∃ t, exec (.illegal 0xD3) State.reset = .next t) ∧
    ∀ op, Instr.illegal 0xD3 = .illegal op → State.reset.params.illegalOpcode = .nop := ⟨exists_next (by decide +kernel), fun _ _ => rfl⟩

theorem witness_FlagFrame : (∃ t, exec .addHLBC State.reset = .next t) ∧ (flagsWritten .addHLBC).1 = false ∧
    (∃ t, exec .daa State.reset = .next t) ∧ (flagsWritten .daa).2.1 = false ∧
    (∃ t, exec .incB State.reset = .next t) ∧ (flagsWritten .incB).2.2.2 = false ∧
    (∃ t, exec .pushAF State.reset = .next t) ∧ (flagsWritten .pushAF).2.2.1 = false ∧
    flagsWritten .pushAF = (false, false, false, false) :=
  ⟨exists_next (by decide +kernel), by decide, exists_next (by decide +kernel), by decide,
    exists_next (by decide +kernel), by decide, exists_next (by decide +kernel), by decide, by decide⟩

theorem witness_MemoryFrame : (∃ t, exec (.ldIndA16A 0xFF46) State.reset = .next t) ∧
    (∀ a ∈ storeAddrs State.reset (.ldIndA16A 0xFF46), touched State.reset.params a 0xFEA0 = false) ∧
    (∀ a ∈ storeAddrs State.reset (.ldIndA16A 0xFF46), touched State.reset.params a 0xFDFF = false) ∧
    State.reset.params.divRead = .counter :=
  ⟨exists_next (by decide +kernel), untouched (by decide), untouched (by decide), by decide⟩

/-- A form that stores nothing leaves every address, also with `DIV_READ = draw`. -/
theorem witness_MemoryFrame_nothing : (∃ t, exec .cpIndHL drawState = .next t) ∧
    (∀ a ∈ storeAddrs drawState .cpIndHL, touched drawState.params a 0xC000 = false) ∧ (0xC000#16 ≠ 0xFF04#16) :=
  ⟨exists_next (by decide +kernel), untouched (by decide), by decide⟩

/-- The CGB reset state with VRAM bank 1 and WRAM bank 7 selected, the palette ports at their ends, and a marked byte
at the ends of each window. -/
def banked : State :=
  let s := withMem cgbState [(0xFF4F, 0x01), (0xFF70, 0x07), (0xFF68, 0x3F), (0xFF6A, 0x80), (0xA000, 0x05), (0xFFFF, 0x06)]
  { s with ram := { s.ram with
      vram1 := [(0, 0x01), (0x1FFF, 0x02)], wramx := [(0x7000, 0x03), (0x7FFF, 0x04)]
      bgPal := s.ram.bgPal.write 63 0x07, objPal := [(0, 0x08)] } }

theorem witness_MemReadMap_rom : (0x0000#16).toNat < 0x4000 ∧ (0x3FFF#16).toNat < 0x4000 ∧ 0x4000 ≤ (0x4000#16).toNat ∧
    (0x7FFF#16).toNat < 0x8000 ∧ bankRom.memRead 0x0000 = 0x00 ∧ bankRom.memRead 0x3FFF = 0x80 ∧
    bankRom.memRead 0x4000 = 0x01 ∧ bankRom.memRead 0x7FFF = 0x81 := by decide

theorem witness_MemReadMap_cgb : banked.params.colorMode = .cgb ∧ (banked.mem 0xFF4F).getLsbD 0 = true ∧
    2 ≤ (banked.mem 0xFF70).toNat % 8 ∧
    banked.memRead 0x8000 = 0x01 ∧ banked.memRead 0x9FFF = 0x02 ∧ banked.memRead 0xA000 = 0x05 ∧
    banked.memRead 0xD000 = 0x03 ∧ banked.memRead 0xDFFF = 0x04 ∧ banked.memRead 0xFF69 = 0x07 ∧
    banked.memRead 0xFF6B = 0x08 ∧ banked.memRead 0xFFFF = 0x06 := by decide

theorem witness_MemReadMap_ports : State.reset.memRead 0xFF00 = 0xCF ∧ State.reset.params.divRead = .counter ∧
    State.reset.memRead 0xFF04 = 0x00 ∧ drawState.params.divRead = .draw := by decide

theorem witness_MemWriteReadsBack : plain State.reset.params 0x8000 = true ∧ plain State.reset.params 0xFFFF = true ∧
    plain State.reset.params 0xFF46 = true ∧ plain State.reset.params 0xFF69 = true ∧ plain banked.params 0x9FFF = true ∧
    plain banked.params 0xD000 = true ∧ plain banked.params 0xFF70 = true := by decide

theorem witness_MemWriteFrame : touched State.reset.params 0x1FFF 0x4000 = false ∧
    touched State.reset.params 0x2000 0x8000 = false ∧ touched State.reset.params 0x5FFF 0x3FFF = false ∧
    touched State.reset.params 0x6000 0x4000 = false ∧ touched State.reset.params 0xFF46 0xFEA0 = false ∧
    touched banked.params 0xFF4F 0xA000 = false ∧ touched banked.params 0xFF70 0xCFFF = false ∧
    touched banked.params 0xFF69 0xFF6A = false ∧ State.reset.params.divRead = .counter := by decide

theorem witness_PortWrites : State.reset.params.divRead = .counter ∧ drawState.params.divRead = .draw ∧
    cgbState.params.colorMode = .cgb := by decide

theorem witness_BankControllerWrites :
    (0x1FFF#16).toNat < 0x2000 ∧ 0x2000 ≤ (0x2000#16).toNat ∧ (0x3FFF#16).toNat < 0x4000 ∧ 0x4000 ≤ (0x4000#16).toNat ∧
    (0x5FFF#16).toNat < 0x6000 ∧ 0x6000 ≤ (0x6000#16).toNat ∧ (0x7FFF#16).toNat < 0x8000 ∧
    [[(0x1FFF, 0x05)], [(0x3FFF, 0x05)], [(0x5FFF, 0x07)], [(0x7FFF, 0x03)]].map bankView =
      [(1, 0, 0, 0x01, 0x81, 0x00), (5, 0, 0, 0x05, 0x85, 0x00), (1, 3, 0, 0x01, 0x81, 0x00),
        (1, 0, 1, 0x01, 0x81, 0x00)] := by decide +kernel

/-- DV1 at its ends: i = 0 and i = 159, and the bytes on both sides of OAM. -/
theorem witness_OamDmaCopiesPage :
    let s := (withMem State.reset [(0xC000, 0x11), (0xC09F, 0x9F), (0xFDFF, 0x22), (0xFEA0, 0x33)]).memWrite 0xFF46 0xC0
    s.mem 0xFE00 = 0x11 ∧ s.mem 0xFE9F = 0x9F ∧ s.mem 0xFDFF = 0x22 ∧ s.mem 0xFEA0 = 0x33 ∧ s.mem 0xFF46 = 0xC0 := by
  decide +kernel

/-- Index 63 without the advance bit, and index 63 with it. -/
theorem witness_PaletteDataWrites : banked.params.colorMode = .cgb ∧ (banked.memWrite 0xFF69 0x55).mem 0xFF68 = 0x3F ∧
    (banked.memWrite 0xFF69 0x55).ram.bgPal.read 63 = 0x55 ∧
    ((banked.memWrite 0xFF6A 0xFF).memWrite 0xFF6B 0x66).mem 0xFF6A = 0xC0 ∧
    ((banked.memWrite 0xFF6A 0xFF).memWrite 0xFF6B 0x66).ram.objPal.read 63 = 0x66 := by decide

/-- Bits 0 and 3 of both lines, one line and neither. -/
theorem witness_JoypadReadBits : [joypadAfter 0x20 0xFE, joypadAfter 0x20 0xF7, joypadAfter 0x10 0xEF,
    joypadAfter 0x10 0x7F, joypadAfter 0x30 0x00] = [0xEE, 0xE7, 0xDE, 0xD7, 0xFF] := by decide

theorem witness_AluGroupLaws : (∃ t, exec (aluInstr .cp .mem) plainState = .next t) ∧
    (∃ u, exec (aluInstr .sub .mem) plainState = .next u) ∧ oldC plainState = false :=
  ⟨exists_next (by decide +kernel), exists_next (by decide +kernel), by decide⟩

/-- 45 + 38 and 0 - 99 in decimal (DA1, and the greatest borrow). -/
theorem witness_DaaMakesDecimalSums : (45 : Nat) < 100 ∧ (38 : Nat) < 100 ∧ (State.reset.setReg .a 0x45).cpu.a = 0x45 ∧
    (∃ t u, exec (.addAD8 0x38) (State.reset.setReg .a 0x45) = .next t ∧ exec .daa t = .next u ∧ u.cpu.a = 0x83) ∧
    (∃ t u, exec (.subD8 0x99) (State.reset.setReg .a 0x00) = .next t ∧ exec .daa t = .next u ∧ u.cpu.a = 0x01 ∧
      oldC u = true) :=
  ⟨by decide, by decide, by decide, ⟨_, _, rfl, rfl, by decide⟩, ⟨_, _, rfl, rfl, by decide, by decide⟩⟩

/-- Both outcomes of each condition occur. -/
theorem witness_conditions : (∀ cc, holds State.reset cc = (match cc with | .nz => false | .z => true | .nc => false | .c => true)) ∧
    (∀ cc, holds plainState cc = (match cc with | .nz => true | .z => false | .nc => true | .c => false)) :=
  ⟨fun cc => by cases cc <;> decide, fun cc => by cases cc <;> decide⟩

theorem witness_SystemResults : (pendingState 0x01 0xE1 false false true).cpu.halted = true ∧
    ((pendingState 0x01 0xE1 false false true).mem 0xFFFF &&& (pendingState 0x01 0xE1 false false true).mem 0xFF0F &&&
      0x1F) ≠ 0 ∧ (pendingState 0x01 0xE1 false false true).cpu.ime = false ∧
    (withMem cgbState [(0xFF4D, 0x01)]).params.colorMode = .cgb ∧
    ((withMem cgbState [(0xFF4D, 0x01)]).mem 0xFF4D).getLsbD 0 = true := by decide

theorem witness_UnassignedAndPrefixResults : decodeBytes 0xD3 0 0 = .illegal 0xD3 ∧ decodeBytes 0xFD 0 0 = .illegal 0xFD ∧
    decodeBytes 0xD2 0 0 = .jpNCA16 0 ∧ decodeBytes 0xFE 0 0 = .cpD8 0 ∧
    (withParams { Config.defaults with illegalOpcode := .stuck }).params.illegalOpcode = .stuck := by decide

theorem witness_PollAndServiceCases :
    (let p := fun s : State => s.mem 0xFFFF &&& s.mem 0xFF0F &&& 0x1F
     p State.reset = 0 ∧ p (pendingState 0x01 0xE1 false false true) ≠ 0 ∧
     (p (pendingState 0x1F 0xFF true false true)).getLsbD 0 = true ∧
     (p (pendingState 0x10 0xF0 true false true)).getLsbD 4 = true ∧
     (∀ j, j < 4 → (p (pendingState 0x10 0xF0 true false true)).getLsbD j = false)) ∧
    (pendingState 0x01 0xE1 false false true).cpu.ime = false ∧ (pendingState 0x1F 0xFF true false true).cpu.ime = true ∧
    (pendingState 0x1F 0xFF true false true).pollAndService.cpu.pc = 0x0040 ∧
    (pendingState 0x10 0xF0 true false true).pollAndService.cpu.pc = 0x0060 := by decide

theorem witness_InterruptReturnResumes :
    let s := pendingState 0x1F 0xFF true false false
    plain s.params (s.cpu.sp - 1) = true ∧ plain s.params (s.cpu.sp - 2) = true ∧
    touched s.params (s.cpu.sp - 2) (s.cpu.sp - 1) = false ∧ ∃ t, exec .reti (s.takeInterrupt 4) = .next t :=
  ⟨by decide, by decide, by decide, exists_next (by decide +kernel)⟩

theorem witness_EiTakesEffectOneInstructionLate : State.reset.params.eiDelay = true ∧
    (withParams { Config.defaults with eiDelay := false }).params.eiDelay = false ∧
    (pendingState 0x01 0xE1 false true false).cpu.ime = false ∧
    (pendingState 0x01 0xE1 false true false).cpu.eiPending = true ∧
    (pendingState 0x01 0xE1 true false false).cpu.ime = true ∧
    ((pendingState 0x01 0xE1 true false false).mem 0xFFFF &&& (pendingState 0x01 0xE1 true false false).mem 0xFF0F &&&
      0x1F) ≠ 0 := by decide

theorem witness_MachineStepTicksAndCharges : ∃ t, cpuStep
    (let polled := State.reset.pollAndService
     if polled.cpu.eiPending then { polled with cpu := { polled.cpu with ime := true, eiPending := false } }
     else polled) = .next t := exists_next (by decide +kernel)

theorem witness_TimerDoesNotDependOnSplit : (State.reset.mem 0xFF07).getLsbD 2 = false := by decide

/-- The two outcomes meet at 255 and 256. -/
theorem witness_TimerTickResults : (State.reset.mem 0xFF07).getLsbD 2 = false ∧
    ((timerState 0x05 0xFE 0x42 0).mem 0xFF07).getLsbD 2 = true ∧
    ((timerState 0x05 0xFE 0x42 0).mem 0xFF05).toNat + (0 + 16) / 16 < 256 ∧
    256 ≤ ((timerState 0x05 0xFE 0x42 0).mem 0xFF05).toNat + (0 + 32) / 16 ∧
    ((timerState 0x05 0xFE 0x42 0).tick 16).mem 0xFF05 = 0xFF ∧
    ((timerState 0x05 0xFE 0x42 0).tick 32).mem 0xFF05 = 0x42 := by decide

/-- Lines 0 and 153, matching LYC and not. -/
theorem witness_LineAndModeUpdates : (0 : Nat) < 154 ∧ (153 : Nat) < 154 ∧
    (State.reset.setLY 0).mem 0xFF41 = 0x85 ∧ (State.reset.setLY 153).mem 0xFF41 = 0x81 ∧
    (State.reset.setLY 153).mem 0xFF44 = 153 ∧
    ((withMem State.reset [(0xFF45, 153), (0xFF41, 0xC0)]).setLY 153).mem 0xFF0F = 0xE3 ∧
    (State.reset.setMode 3).mem 0xFF41 = 0x87 := by decide

theorem witness_LineIsRenderedAtModeThreeEntry : (0 : Nat) < 144 ∧ (143 : Nat) < 144 ∧ (0 : Nat) < 160 ∧
    (159 : Nat) < 160 ∧ State.reset.params.colorMode ≠ .cgb ∧ cgbState.params.colorMode = .cgb := by decide

theorem witness_TileFetchArithmetic : (State.reset.mem 0xFF40).getLsbD 4 = true ∧
    ((withMem State.reset [(0xFF40, 0x81)]).mem 0xFF40).getLsbD 4 = false ∧
    (withMem State.reset [(0xFF40, 0x81)]).tileDataAddr 0x7F = 0x97F0 ∧
    (withMem State.reset [(0xFF40, 0x81)]).tileDataAddr 0x80 = 0x8800 ∧ State.reset.tileDataAddr 0xFF = 0x8FF0 ∧
    (withMem State.reset pxSetup).pixelOf false 0x8000 0 0 = 0 ∧
    (withMem State.reset pxSetup).pixelOf false 0x8000 0 7 = 3 := by decide

/-- The reset state with a window at (WX, WY), snapshot taken. -/
def windowState (lcdc wx wy : Byte) : State :=
  (withMem State.reset [(0xFF40, lcdc), (0xFF4B, wx), (0xFF4A, wy)]).takeSnapshot

/-- The last column of the window (WX = 166), the first column past it (WX = 167), and WX = 0. -/
theorem witness_BackgroundAndWindowPixel : (159 : Nat) < 160 ∧ (143 : Nat) < 144 ∧
    (windowState 0xF1 166 143).bgWinSource 159 143 = (0x9C00, 0, 0) ∧
    (windowState 0xF1 167 143).bgWinSource 159 143 = (0x9800, 159, 143) ∧
    (windowState 0xF1 0 0).bgWinSource 0 0 = (0x9C00, 7, 0) ∧ (windowState 0xF1 7 1).bgWinSource 0 0 = (0x9800, 0, 0) ∧
    (State.reset.params.colorMode = .dmg) ∧ ((windowState 0x90 0 0).mem 0xFF40).getLsbD 0 = false ∧
    (windowState 0x90 0 0).bgWinPixel 0 0 = (0, 0) ∧ cgbState.params.colorMode = .cgb := by decide

/-- One opaque sprite, tile 1, at entry `k`. -/
def spriteState (k : Nat) (lcdc y x : Byte) : State :=
  (withMem (withMem State.reset pxSetup)
    [(0xFF40, lcdc), (0xFE00 + 4 * k, y), (0xFE00 + 4 * k + 1, x), (0xFE00 + 4 * k + 2, 1)]).takeSnapshot

/-- The first and the last entry, the first and the last column, and sprites off. -/
theorem witness_SpriteSelection : ((spriteState 0 0x91 16 8).mem 0xFF40).getLsbD 1 = false ∧
    ((spriteState 0 0x93 16 8).mem 0xFF40).getLsbD 1 = true ∧ (spriteState 0 0x91 16 8).spritePixel 0 0 = none ∧
    (spriteState 0 0x93 16 8).spritePixel 0 0 = some (1, 0) ∧ (spriteState 39 0x93 16 8).spritePixel 7 0 = some (1, 0) ∧
    (spriteState 0 0x93 16 8).spritePixel 8 0 = none ∧ (spriteState 0 0x93 16 8).spritePixel 0 8 = none := by decide

theorem witness_PixelComposition : (spriteState 0 0x91 16 8).spritePixel 0 0 = none ∧
    (spriteState 0 0x93 16 8).spritePixel 0 0 = some (1, 0) ∧ (spriteState 0 0x93 16 8).dmgPixel 1 0 = 1 := by decide

/-- A running budget, and each position at the ends of its lines with the budget used up. -/
theorem witness_DriverSequence : 0 < (atPhase (.oam 0) 80).driver.cycleBalance ∧
    (atPhase .between 0).driver.cycleBalance ≤ 0 ∧
    ([.between, .idle 0, .idle 153, .oam 0, .oam 143, .transfer 143, .hblank 142, .hblank 143, .vblank 144,
      .vblank 153] : List Phase).all Phase.wf = true ∧
    (atPhase (.hblank 142) 0).driverTurn.driver.phase = .oam 143 ∧
    (atPhase (.hblank 143) 0).driverTurn.driver.phase = .vblank 144 ∧
    (atPhase (.hblank 143) 0).driverTurn.mem 0xFF0F = 0xE1 ∧
    (atPhase (.vblank 152) (-8)).driverTurn.driver.cycleBalance = 448 ∧
    (atPhase (.vblank 153) 0).driverTurn.driver.framesDone = 1 ∧
    (atPhase (.idle 152) 0).driverTurn.driver.phase = .idle 153 ∧
    (atPhase (.idle 153) 0).driverTurn.driver.phase = .oam 0 := by decide

theorem witness_HostControls : (7 : Nat) < 8 ∧ 8 ≤ (8 : Nat) ∧ (State.reset.press 0).controls = 0xFE ∧
    (State.reset.press 7).controls = 0x7F ∧ ((State.reset.press 7).release 7).controls = 0xFF ∧
    State.reset.driver.phase = .between ∧ (atPhase (.oam 0) 80).driver.phase ≠ .between ∧
    findSav (State.reset.setSav 3 (some State.reset.saveImage)).hostSide.savFiles 3 = some State.reset.saveImage ∧
    findSav ((State.reset.setSav 3 (some State.reset.saveImage)).setSav 3 none).hostSide.savFiles 3 = none := by
  decide +kernel

/-- The save and a load of it by another state under the same ROM, and a load without a file. -/
theorem witness_SaveThenLoadRestores : State.reset.Inv ∧ State.reset.driver.phase = .between ∧
    (let u := State.reset.saveState.setPc 0x4000
     u.params = State.reset.params ∧ u.driver.phase = .between ∧ u.savFile = some State.reset.saveImage ∧
     u.cart.rom = State.reset.cart.rom) ∧
    State.reset.savFile = none := ⟨by decide, rfl, ⟨rfl, rfl, by decide +kernel, rfl⟩, rfl⟩

/-- What the calls of one boundary answer, seen by `f`. -/
def afterCalls {α : Type} (cs : List HostCall) (s : State) (f : State → α) : Option α :=
  match hostCalls cs s with
  | .next t => some (f t)
  | _ => none

/-- A save is restored after `load_rom` of the same file, which leaves the .sav file alone (R482, R500). -/
theorem test_save_load_rom_load :
    afterCalls [.saveState, .loadRom 0 (some blankRom) noDraws, .loadState]
      ((withMem State.reset [(0xC000, 0x5A)]).setReg .a 0x77)
      (fun t => (t.cpu.a, t.mem 0xC000, t.hostSide.loadReport)) = some (0x77, 0x5A, some true) := by decide +kernel

/-- Another ROM file has another .sav file, here none (R482). -/
theorem test_load_other_path :
    afterCalls [.saveState, .loadRom 1 (some blankRom) noDraws, .loadState] (State.reset.setReg .a 0x77)
      (fun t => (t.cpu.a, t.hostSide.loadReport)) = some (0x01, some false) := by decide +kernel

/-- RAM draws with a byte at each end of working memory. -/
def someDraws : Ram :=
  { mem := [(0x8000, 0x01), (0xFFFE, 0x02)], vram1 := [(0, 0x03)], wramx := [(0x7FFF, 0x04)], bgPal := []
    objPal := [(63, 0x05)] }

/-- An image of one byte, called for between frames. -/
theorem witness_LoadRomResets_call : State.reset.driver.phase = .between ∧
    (let image : RomImage := { size := 1, bytes := [(0, 0xAA)] }
     0 < image.size ∧ image.bytes.wf 0 image.size = true ∧
     afterCalls [.loadRom 2 (some image) someDraws] bankRom (fun t =>
       (t.memRead 0, t.memRead 1, t.hostSide.romPath)) = some (0xAA, 0xFF, 2)) := by decide +kernel

theorem witness_LoadRomResets : Memory.wf someDraws = true ∧ blankRom.bytes.wf 0 blankRom.size = true ∧
    (let t := State.loaded { Config.defaults with colorMode := .cgb, ramInit := .draw } blankRom someDraws
     t.mem 0x8000 = 0x01 ∧ t.mem 0xFFFE = 0x02 ∧ t.mem 0xFFFF = 0x00 ∧ t.ram.vram1.read 0 = 0x03 ∧
     t.ram.wramx.read 0x7FFF = 0x04 ∧ t.ram.objPal.read 63 = 0x05 ∧ t.ram.bgPal.read 63 = 0xFF) ∧
    (State.loaded Config.defaults blankRom someDraws).mem 0x8000 = 0x00 := by decide

end Sys2Proof.Tests
end

section
/-! SUPPORT. What running an instruction can change, said once. Each shared operation of Machine/Operands.lean is a
`Meaning` of the same name: its run, the CPU registers it may write, and the proof that it changes the state by no other
update. `meaningOf` finds the meaning of an instruction by the fields of its bytes (30_encoding.md R161 to R166). -/

namespace Sys2Proof.Machine

open Sys2Proof.Forms

/-! ### What an outcome satisfies -/

/-- Whatever next state an outcome answers satisfies `P`. -/
def Answers (r : Result) (P : State → Prop) : Prop := ∀ t, r = .next t → P t

theorem answers_next {s : State} {P : State → Prop} (h : P s) : Answers (.next s) P :=
  fun _ e => Host.Outcome.next.inj e ▸ h

theorem answers_refused {e : Refusal} {P : State → Prop} : Answers (.refused e) P :=
  fun _ h => absurd h nofun

theorem answers_ite {c : Prop} [Decidable c] {r r' : Result} {P : State → Prop} (h : Answers r P) (h' : Answers r' P) :
    Answers (if c then r else r') P := by
  split
  · exact h
  · exact h'

/-! ### The CPU registers an operation may write -/

/-- The CPU registers that an operation may write: of the 8-bit registers those listed, SP, the flags Z, N, H and C, IME
with ei_pending, and halted. Any operation may write PC. -/
structure Writes where
  regs : List Reg8 := []
  sp : Bool := false
  flags : Bool × Bool × Bool × Bool := (false, false, false, false)
  ime : Bool := false
  halted : Bool := false

/-- `P` is kept by every update that an operation writing `w` is made of: the writes of the CPU registers in `w`, of PC
and of memory, the reads, and the count of cycles. -/
structure Writes.Keep (w : Writes) (P : State → Prop) : Prop where
  setReg {s : State} {r : Reg8} (v : Byte) : r ∈ w.regs → P s → P (s.setReg r v)
  setSp {s : State} (v : Word) : w.sp = true → P s → P (s.setSp v)
  setPc {s : State} (v : Word) : P s → P (s.setPc v)
  setF {s : State} (v : Byte) : w.flags = (true, true, true, true) → P s → P (s.setF v)
  setFlags {s : State} {z n h c : Bool} : w.flags ≠ (false, false, false, false) →
    (w.flags.1 = false → z = s.flagZ) → (w.flags.2.1 = false → n = s.flagN) → (w.flags.2.2.1 = false → h = s.flagH) →
    (w.flags.2.2.2 = false → c = s.flagC) → P s → P (s.setFlags z n h c)
  setIme {s : State} (ime ei : Bool) : w.ime = true → P s → P { s with cpu := { s.cpu with ime := ime, eiPending := ei } }
  setHalted {s : State} (v : Bool) : w.halted = true → P s → P { s with cpu := { s.cpu with halted := v } }
  setKey1 {s : State} (v : Byte) : P s → P (s.setMem addrKey1 v)
  memWrite {s : State} (a : Word) (v : Byte) : P s → P (s.memWrite a v)
  noteRead {s : State} (a : Word) : P s → P (s.noteRead a)
  addCycles {s : State} (n : Nat) : P s → P (s.addCycles n)

/-- The 8-bit registers of a pair other than F. -/
def pairDest : Pair → List Reg8
  | .bc => [.b, .c]
  | .de => [.d, .e]
  | .hl => [.h, .l]
  | .sp => []
  | .af => [.a]

/-- Only a write of AF writes the flags. -/
def pairFlags : Pair → Bool × Bool × Bool × Bool
  | .af => (true, true, true, true)
  | _ => (false, false, false, false)

namespace Writes.Keep

variable {w : Writes} {P : State → Prop} {s : State}

theorem done (hP : w.Keep P) (n : Nat) (h : P s) : Answers (s.done n) P := answers_next (hP.addCycles n h)

/-- An update of all four flags may give them any value. -/
theorem setAllFlags (hP : w.Keep P) (hw : w.flags = (true, true, true, true)) (z n hc c : Bool) (h : P s) :
    P (s.setFlags z n hc c) := by
  refine hP.setFlags ?_ ?_ ?_ ?_ ?_ h <;> simp [hw]

theorem setPair (hP : w.Keep P) (p : Pair) (v : Word) (hr : ∀ r ∈ pairDest p, r ∈ w.regs) (hs : p = .sp → w.sp = true)
    (hf : p = .af → w.flags = (true, true, true, true)) (h : P s) : P (s.setPair p v) := by
  have two : ∀ {r q : Reg8}, r ∈ w.regs → q ∈ w.regs → P ((s.setReg r (hiByte v)).setReg q (loByte v)) :=
    fun hr hq => hP.setReg _ hq (hP.setReg _ hr h)
  cases p with
  | bc => exact two (hr .b (by decide)) (hr .c (by decide))
  | de => exact two (hr .d (by decide)) (hr .e (by decide))
  | hl => exact two (hr .h (by decide)) (hr .l (by decide))
  | sp => exact hP.setSp v (hs rfl) h
  | af => exact hP.setF (loByte v) (hf rfl) (hP.setReg (hiByte v) (hr .a (by decide)) h)

theorem setHl (hP : w.Keep P) (v : Word) (hr : ∀ r ∈ [Reg8.h, .l], r ∈ w.regs) (h : P s) : P (s.setPair .hl v) :=
  hP.setPair .hl v hr nofun nofun h

theorem push16 (hP : w.Keep P) (v : Word) (hs : w.sp = true) (h : P s) : P (s.push16 v) :=
  hP.memWrite _ _ (hP.setSp _ hs (hP.memWrite _ _ (hP.setSp _ hs h)))

theorem pop16 (hP : w.Keep P) (hs : w.sp = true) (h : P s) : P s.pop16.2 :=
  hP.setSp _ hs (hP.noteRead _ (hP.setSp _ hs (hP.noteRead _ h)))

theorem callTo (hP : w.Keep P) (target : Word) (hs : w.sp = true) (h : P s) : P (s.callTo target) :=
  hP.setPc _ (hP.push16 _ hs h)

theorem returnPc (hP : w.Keep P) (hs : w.sp = true) (h : P s) : P s.returnPc := hP.setPc _ (hP.pop16 hs h)

end Writes.Keep

/-! ### The shared operations -/

/-- An operation of the machine with the CPU registers it may write: a property that these writes and every access to
memory keep holds of its next state. -/
structure Meaning where
  run : State → Result
  writes : Writes := {}
  sound {P : State → Prop} {s : State} : writes.Keep P → P s → Answers (run s) P

namespace Meaning

/-- The flag pattern `* * * *`. -/
def allFlags : Bool × Bool × Bool × Bool := (true, true, true, true)

/-! ### 8-bit loads -/

def ldRegReg (r q : Reg8) : Meaning where
  run := Machine.ldRegReg r q
  writes := { regs := [r] }
  sound hP h := hP.done 4 (hP.setReg _ (List.mem_singleton_self r) h)

def ldRegImm (r : Reg8) (d8 : Byte) : Meaning where
  run := Machine.ldRegImm r d8
  writes := { regs := [r] }
  sound hP h := hP.done 8 (hP.setReg _ (List.mem_singleton_self r) h)

def ldRegHL (r : Reg8) : Meaning where
  run := Machine.ldRegHL r
  writes := { regs := [r] }
  sound hP h := hP.done 8 (hP.setReg _ (List.mem_singleton_self r) (hP.noteRead _ h))

def ldHLReg (r : Reg8) : Meaning where
  run := Machine.ldHLReg r
  sound hP h := hP.done 8 (hP.memWrite _ _ h)

def ldHLImm (d8 : Byte) : Meaning where
  run := execLdIndHLD8 d8
  sound hP h := hP.done 12 (hP.memWrite _ _ h)

/-- A load of A from the address `a` gives. -/
def ldA (a : State → Word) (n : Nat) : Meaning where
  run s := ldAFrom (a s) n s
  writes := { regs := [.a] }
  sound hP h := hP.done n (hP.setReg _ (by simp) (hP.noteRead _ h))

/-- A store of A to the address `a` gives. -/
def stA (a : State → Word) (n : Nat) : Meaning where
  run s := stATo (a s) n s
  sound hP h := hP.done n (hP.memWrite _ _ h)

def ldAMoveHL (step : Word) : Meaning where
  run := Machine.ldAMoveHL step
  writes := { regs := [.a, .h, .l] }
  sound hP h := hP.done 8 (hP.setHl _ (by simp) (hP.setReg _ (by simp) (hP.noteRead _ h)))

def stAMoveHL (step : Word) : Meaning where
  run := Machine.stAMoveHL step
  writes := { regs := [.h, .l] }
  sound hP h := hP.done 8 (hP.setHl _ (by simp) (hP.memWrite _ _ h))

/-! ### 16-bit loads and the stack -/

/-- What a write of the pair `p` may change, and SP besides for a POP. -/
def pairWrites (p : Pair) (sp : Bool) : Writes :=
  { regs := pairDest p, sp := sp || decide (p = .sp), flags := pairFlags p }

theorem setPair_pairWrites {p : Pair} {sp : Bool} {P : State → Prop} (hP : (pairWrites p sp).Keep P) {s : State} (v : Word)
    (h : P s) : P (s.setPair p v) :=
  hP.setPair p v (fun _ => id) (fun e => by simp [pairWrites, e]) (fun e => by simp [pairWrites, e, pairFlags]) h

def ldPairImm (p : Pair) (d16 : Word) : Meaning where
  run := Machine.ldPairImm p d16
  writes := pairWrites p false
  sound hP h := hP.done 12 (setPair_pairWrites hP _ h)

def pushPair (p : Pair) : Meaning where
  run := Machine.pushPair p
  writes := { sp := true }
  sound hP h := hP.done 16 (hP.push16 _ rfl h)

def popPair (p : Pair) : Meaning where
  run := Machine.popPair p
  writes := pairWrites p true
  sound hP h := hP.done 12 (setPair_pairWrites hP _ (hP.pop16 rfl h))

def ldIndA16SP (a16 : Word) : Meaning where
  run := execLdIndA16SP a16
  sound hP h := hP.done 20 (hP.memWrite _ _ (hP.memWrite _ _ h))

def ldHLSPDisp (e : Byte) : Meaning where
  run := execLdHLSPDisp e
  writes := { regs := [.h, .l], flags := allFlags }
  sound hP h := hP.done 12 (hP.setAllFlags rfl _ _ _ _ (hP.setHl _ (by simp) h))

def ldSPHL : Meaning where
  run := execLdSPHL
  writes := { sp := true }
  sound hP h := hP.done 8 (hP.setSp _ rfl h)

/-! ### 8-bit arithmetic and logic -/

/-- Every ALU operation writes all four flags, and every one but CP writes A (R240). -/
def aluWrites (op : AluOp) : Writes := { regs := if op = .cp then [] else [.a], flags := allFlags }

theorem alu_aluWrites {op : AluOp} {P : State → Prop} (hP : (aluWrites op).Keep P) {s : State} (v : Byte) (h : P s) :
    P (s.alu op v) := by
  cases op
  case cp => exact hP.setAllFlags rfl _ _ _ _ h
  all_goals exact hP.setAllFlags rfl _ _ _ _ (hP.setReg _ (List.mem_singleton_self _) h)

def aluReg (op : AluOp) (r : Reg8) : Meaning where
  run := Machine.aluReg op r
  writes := aluWrites op
  sound hP h := hP.done 4 (alu_aluWrites hP _ h)

def aluHL (op : AluOp) : Meaning where
  run := Machine.aluHL op
  writes := aluWrites op
  sound hP h := hP.done 8 (alu_aluWrites hP _ (hP.noteRead _ h))

def aluImm (op : AluOp) (d8 : Byte) : Meaning where
  run := Machine.aluImm op d8
  writes := aluWrites op
  sound hP h := hP.done 8 (alu_aluWrites hP _ h)

/-- INC and DEC keep C: the flag pattern `* * * -`. -/
def countFlags : Bool × Bool × Bool × Bool := (true, true, true, false)

/-- A flag update that keeps C, as INC, DEC and BIT make it. -/
theorem setFlags_keepC {w : Writes} {P : State → Prop} (hP : w.Keep P) (hw : w.flags = countFlags) {s : State}
    (z n hc : Bool) (h : P s) : P (s.setFlags z n hc s.flagC) :=
  hP.setFlags (by simp [hw, countFlags]) (by simp [hw, countFlags]) (by simp [hw, countFlags]) (by simp [hw, countFlags])
    (fun _ => rfl) h

def incReg (r : Reg8) : Meaning where
  run := Machine.incReg r
  writes := { regs := [r], flags := countFlags }
  sound hP h := hP.done 4 (setFlags_keepC hP rfl _ _ _ (hP.setReg _ (List.mem_singleton_self r) h))

def decReg (r : Reg8) : Meaning where
  run := Machine.decReg r
  writes := { regs := [r], flags := countFlags }
  sound hP h := hP.done 4 (setFlags_keepC hP rfl _ _ _ (hP.setReg _ (List.mem_singleton_self r) h))

def incIndHL : Meaning where
  run := execIncIndHL
  writes := { flags := countFlags }
  sound hP h := hP.done 12 (setFlags_keepC hP rfl _ _ _ (hP.memWrite _ _ (hP.noteRead _ h)))

def decIndHL : Meaning where
  run := execDecIndHL
  writes := { flags := countFlags }
  sound hP h := hP.done 12 (setFlags_keepC hP rfl _ _ _ (hP.memWrite _ _ (hP.noteRead _ h)))

def daa : Meaning where
  run := execDaa
  writes := { regs := [.a], flags := (true, false, true, true) }
  sound hP h := hP.done 4 (hP.setFlags (by decide) nofun (fun _ => rfl) nofun nofun (hP.setReg _ (by simp) h))

def cpl : Meaning where
  run := execCpl
  writes := { regs := [.a], flags := (false, true, true, false) }
  sound hP h := hP.done 4 (hP.setFlags (by decide) (fun _ => rfl) nofun nofun (fun _ => rfl) (hP.setReg _ (by simp) h))

/-- The flag pattern `- * * *`. -/
def carryFlags : Bool × Bool × Bool × Bool := (false, true, true, true)

/-- A flag update that keeps Z, as ADD HL, SCF and CCF make it. -/
theorem setFlags_keepZ {w : Writes} {P : State → Prop} (hP : w.Keep P) (hw : w.flags = carryFlags) {s : State}
    (n hc c : Bool) (h : P s) : P (s.setFlags s.flagZ n hc c) :=
  hP.setFlags (by simp [hw, carryFlags]) (fun _ => rfl) (by simp [hw, carryFlags]) (by simp [hw, carryFlags])
    (by simp [hw, carryFlags]) h

def scf : Meaning where
  run := execScf
  writes := { flags := carryFlags }
  sound hP h := hP.done 4 (setFlags_keepZ hP rfl _ _ _ h)

def ccf : Meaning where
  run := execCcf
  writes := { flags := carryFlags }
  sound hP h := hP.done 4 (setFlags_keepZ hP rfl _ _ _ h)

/-! ### 16-bit arithmetic -/

def addHLPair (p : Pair) : Meaning where
  run := Machine.addHLPair p
  writes := { regs := [.h, .l], flags := carryFlags }
  sound hP h := hP.done 8 (setFlags_keepZ hP rfl _ _ _ (hP.setHl _ (by simp) h))

def incPair (p : Pair) : Meaning where
  run := Machine.incPair p
  writes := pairWrites p false
  sound hP h := hP.done 8 (setPair_pairWrites hP _ h)

def decPair (p : Pair) : Meaning where
  run := Machine.decPair p
  writes := pairWrites p false
  sound hP h := hP.done 8 (setPair_pairWrites hP _ h)

def addSPDisp (e : Byte) : Meaning where
  run := execAddSPDisp e
  writes := { sp := true, flags := allFlags }
  sound hP h := hP.done 16 (hP.setAllFlags rfl _ _ _ _ (hP.setSp _ rfl h))

/-! ### Rotates, shifts and bits -/

def rotateA (op : RotOp) : Meaning where
  run := Machine.rotateA op
  writes := { regs := [.a], flags := allFlags }
  sound hP h := hP.done 4 (hP.setAllFlags rfl _ _ _ _ (hP.setReg _ (by simp) h))

def rotateReg (op : RotOp) (r : Reg8) : Meaning where
  run := Machine.rotateReg op r
  writes := { regs := [r], flags := allFlags }
  sound hP h := hP.done 8 (hP.setAllFlags rfl _ _ _ _ (hP.setReg _ (List.mem_singleton_self r) h))

def rotateHL (op : RotOp) : Meaning where
  run := Machine.rotateHL op
  writes := { flags := allFlags }
  sound hP h := hP.done 16 (hP.setAllFlags rfl _ _ _ _ (hP.memWrite _ _ (hP.noteRead _ h)))

def bitReg (b : Nat) (r : Reg8) : Meaning where
  run := Machine.bitReg b r
  writes := { flags := countFlags }
  sound hP h := hP.done 8 (setFlags_keepC hP rfl _ _ _ h)

def bitHL (b : Nat) : Meaning where
  run := Machine.bitHL b
  writes := { flags := countFlags }
  sound hP h := hP.done 12 (setFlags_keepC hP rfl _ _ _ (hP.noteRead _ h))

def resReg (b : Nat) (r : Reg8) : Meaning where
  run := Machine.resReg b r
  writes := { regs := [r] }
  sound hP h := hP.done 8 (hP.setReg _ (List.mem_singleton_self r) h)

def resHL (b : Nat) : Meaning where
  run := Machine.resHL b
  sound hP h := hP.done 16 (hP.memWrite _ _ (hP.noteRead _ h))

def setReg8Bit (b : Nat) (r : Reg8) : Meaning where
  run := Machine.setReg8Bit b r
  writes := { regs := [r] }
  sound hP h := hP.done 8 (hP.setReg _ (List.mem_singleton_self r) h)

def setHLBit (b : Nat) : Meaning where
  run := Machine.setHLBit b
  sound hP h := hP.done 16 (hP.memWrite _ _ (hP.noteRead _ h))

/-! ### Control transfer -/

/-- A jump to the address `a` gives, at a cost of `n`. -/
def jump (a : State → Word) (n : Nat) : Meaning where
  run s := (s.setPc (a s)).done n
  sound hP h := hP.done n (hP.setPc _ h)

def jpCond (cc : Cond) (a16 : Word) : Meaning where
  run := Machine.jpCond cc a16
  sound hP h := answers_ite (hP.done 16 (hP.setPc _ h)) (hP.done 12 h)

def jrCond (cc : Cond) (e : Byte) : Meaning where
  run := Machine.jrCond cc e
  sound hP h := answers_ite (hP.done 12 (hP.setPc _ h)) (hP.done 8 h)

/-- An unconditional call of `target`, at a cost of `n`. -/
def call (target : Word) (n : Nat) : Meaning where
  run s := (s.callTo target).done n
  writes := { sp := true }
  sound hP h := hP.done n (hP.callTo _ rfl h)

def callCond (cc : Cond) (a16 : Word) : Meaning where
  run := Machine.callCond cc a16
  writes := { sp := true }
  sound hP h := answers_ite (hP.done 24 (hP.callTo _ rfl h)) (hP.done 12 h)

def ret : Meaning where
  run := execRet
  writes := { sp := true }
  sound hP h := hP.done 16 (hP.returnPc rfl h)

def retCond (cc : Cond) : Meaning where
  run := Machine.retCond cc
  writes := { sp := true }
  sound hP h := answers_ite (hP.done 20 (hP.returnPc rfl h)) (hP.done 8 h)

def reti : Meaning where
  run := execReti
  writes := { sp := true, ime := true }
  sound hP h := hP.done 16 (hP.setIme true false rfl (hP.returnPc rfl h))

/-! ### System -/

def nop : Meaning where
  run := execNop
  sound hP h := hP.done 4 h

def stop (d8 : Byte) : Meaning where
  run := execStop d8
  sound hP h := answers_ite (hP.done 4 (hP.setKey1 _ h)) (hP.done 4 h)

def halt : Meaning where
  run := execHalt
  writes := { halted := true }
  sound hP h := hP.done 4 (hP.setHalted true rfl h)

def di : Meaning where
  run := execDi
  writes := { ime := true }
  sound hP h := hP.done 4 (hP.setIme false false rfl h)

def ei : Meaning where
  run := execEi
  writes := { ime := true }
  sound {_ s} hP h := answers_ite (hP.done 4 (hP.setIme s.cpu.ime true rfl h))
    (hP.done 4 (hP.setIme true s.cpu.eiPending rfl h))

/-- The unassigned opcodes: stuck, they clear IME (R355). -/
def illegal : Meaning where
  run := execIllegal 0
  writes := { ime := true }
  sound {_ s} hP h := by
    unfold execIllegal
    split
    · exact hP.done 4 h
    · exact hP.done 4 (hP.setIme false false rfl (hP.setPc (s.cpu.pc - 1) h))

end Meaning

/-! ### The meaning of an instruction, by the fields of its bytes -/

/-- `rp` of R164. -/
def rpOfField : Nat → Pair
  | 0 => .bc
  | 1 => .de
  | 2 => .hl
  | _ => .sp

/-- `rp2` of R164. -/
def rp2OfField : Nat → Pair
  | 0 => .bc
  | 1 => .de
  | 2 => .hl
  | _ => .af

/-- The condition of a field value (R165). -/
def condOfField : Nat → Cond
  | 0 => .nz
  | 1 => .z
  | 2 => .nc
  | _ => .c

/-- The ALU operation of a field value (R166). -/
def aluOfField : Nat → AluOp
  | 0 => .add
  | 1 => .adc
  | 2 => .sub
  | 3 => .sbc
  | 4 => .and
  | 5 => .xor
  | 6 => .or
  | _ => .cp

namespace Meaning

/-- A CB instruction by its fields, as `executeCb` reads them (R171). -/
def cb (cbop : Byte) : Meaning :=
  let x := cbop.toNat / 64
  let y := cbop.toNat / 8 % 8
  let z := cbop.toNat % 8
  if z = 6 then
    match x with
    | 0 => rotateHL (rotOfField y)
    | 1 => bitHL y
    | 2 => resHL y
    | _ => setHLBit y
  else
    match x with
    | 0 => rotateReg (rotOfField y) (regOfField z)
    | 1 => bitReg y (regOfField z)
    | 2 => resReg y (regOfField z)
    | _ => setReg8Bit y (regOfField z)

theorem cb_run (cbop : Byte) : (cb cbop).run = executeCb cbop := by
  funext s
  simp only [cb, executeCb]
  generalize cbop.toNat / 64 = x
  rcases x with _ | _ | _ | _ <;> split <;> rfl

/-- The accumulator and flag operations, opcodes `00 yyy 111` (R168). -/
def accumulator : Nat → Meaning
  | 4 => daa
  | 5 => cpl
  | 6 => scf
  | 7 => ccf
  | y => rotateA (rotOfField y)

/-- Opcodes `00 yyy 000`: NOP, LD (a16),SP, STOP and the relative jumps (R168). -/
def relative (d8 : Byte) (d16 : Word) : Nat → Meaning
  | 0 => nop
  | 1 => ldIndA16SP d16
  | 2 => stop d8
  | 3 => jump (fun s => s.relTarget d8) 12
  | y => jrCond (condOfField (y - 4)) d8

/-- Opcodes `00 yyy 010`: the loads and stores of A through a pair (R168). -/
def indirect : Nat → Meaning
  | 0 => stA (fun s => s.getPair .bc) 8
  | 1 => ldA (fun s => s.getPair .bc) 8
  | 2 => stA (fun s => s.getPair .de) 8
  | 3 => ldA (fun s => s.getPair .de) 8
  | 4 => stAMoveHL 1
  | 5 => ldAMoveHL 1
  | 6 => stAMoveHL (-1)
  | _ => ldAMoveHL (-1)

/-- Opcodes `00 yyy zzz` (R168). -/
def row0 (y z : Nat) (d8 : Byte) (d16 : Word) : Meaning :=
  match z with
  | 0 => relative d8 d16 y
  | 1 => if y % 2 = 0 then ldPairImm (rpOfField (y / 2)) d16 else addHLPair (rpOfField (y / 2))
  | 2 => indirect y
  | 3 => if y % 2 = 0 then incPair (rpOfField (y / 2)) else decPair (rpOfField (y / 2))
  | 4 => if y = 6 then incIndHL else incReg (regOfField y)
  | 5 => if y = 6 then decIndHL else decReg (regOfField y)
  | 6 => if y = 6 then ldHLImm d8 else ldRegImm (regOfField y) d8
  | _ => accumulator y

/-- Opcodes `01 yyy zzz`: HALT and the loads between registers and (HL) (R168). -/
def row1 (y z : Nat) : Meaning :=
  if y = 6 ∧ z = 6 then halt
  else if z = 6 then ldRegHL (regOfField y)
  else if y = 6 then ldHLReg (regOfField z)
  else ldRegReg (regOfField y) (regOfField z)

/-- Opcodes `10 yyy zzz`: the ALU group on registers and (HL) (R168). -/
def row2 (y z : Nat) : Meaning := if z = 6 then aluHL (aluOfField y) else aluReg (aluOfField y) (regOfField z)

/-- Opcodes `11 yyy 000`: RET cc, the high-page loads and SP plus a displacement (R168). -/
def highPageRow (d8 : Byte) : Nat → Meaning
  | 4 => stA (fun _ => highPage d8) 12
  | 5 => addSPDisp d8
  | 6 => ldA (fun _ => highPage d8) 12
  | 7 => ldHLSPDisp d8
  | y => retCond (condOfField y)

/-- Opcodes `11 yyy 001`: POP, RET, RETI, JP HL and LD SP,HL (R168). -/
def popRow : Nat → Meaning
  | 1 => ret
  | 3 => reti
  | 5 => jump State.hl 4
  | 7 => ldSPHL
  | y => popPair (rp2OfField (y / 2))

/-- Opcodes `11 yyy 010`: JP cc and the loads of A at C's or an absolute address (R168). -/
def jumpRow (d16 : Word) : Nat → Meaning
  | 4 => stA (fun s => highPage s.cpu.c) 8
  | 5 => stA (fun _ => d16) 16
  | 6 => ldA (fun s => highPage s.cpu.c) 8
  | 7 => ldA (fun _ => d16) 16
  | y => jpCond (condOfField y) d16

/-- Opcodes `11 yyy zzz`, the 0xCB byte with the byte after it; the others are unassigned (R168, R173). -/
def row3 (y z : Nat) (d8 : Byte) (d16 : Word) : Meaning :=
  match z, y with
  | 0, y => highPageRow d8 y
  | 1, y => popRow y
  | 2, y => jumpRow d16 y
  | 3, 0 => jump (fun _ => d16) 16
  | 3, 1 => cb d8
  | 3, 6 => di
  | 3, 7 => ei
  | 4, y => if y < 4 then callCond (condOfField y) d16 else illegal
  | 5, 1 => call d16 24
  | 5, y => if y % 2 = 0 then pushPair (rp2OfField (y / 2)) else illegal
  | 6, y => aluImm (aluOfField y) d8
  | 7, y => call (BitVec.ofNat 16 (y * 8)) 16
  | _, _ => illegal

/-- The meaning of an opcode byte with its operand, a byte or a word. -/
def ofOpcode (op d8 : Byte) (d16 : Word) : Meaning :=
  let y := op.toNat / 8 % 8
  let z := op.toNat % 8
  match op.toNat / 64 with
  | 0 => row0 y z d8 d16
  | 1 => row1 y z
  | 2 => row2 y z
  | _ => row3 y z d8 d16

end Meaning

/-- `illegal`, which may carry any byte, so that its words say nothing of it. -/
def isIllegal : Instr → Bool
  | .illegal _ => true
  | _ => false

/-- The meaning that an instruction's words name. -/
def meaningOf (i : Instr) : Meaning :=
  if isIllegal i then Meaning.illegal
  else Meaning.ofOpcode ((encode i).headD 0) ((encode i).getD 1 0) (cat ((encode i).getD 2 0) ((encode i).getD 1 0))

/-- The meaning of words with one operand byte. -/
theorem meaningOf_of_byte {i : Instr} {op d8 : Byte} (hi : isIllegal i = false) (he : encode i = [op, d8]) :
    meaningOf i = Meaning.ofOpcode op d8 (cat 0 d8) := by
  unfold meaningOf
  rw [hi, he]
  rfl

/-- The meaning of words with an operand word, low byte first (R160). -/
theorem meaningOf_of_word {i : Instr} {op : Byte} {w : Word} (hi : isIllegal i = false)
    (he : encode i = [op, loByte w, hiByte w]) : meaningOf i = Meaning.ofOpcode op (loByte w) w := by
  unfold meaningOf
  rw [hi, he]
  exact congrArg (Meaning.ofOpcode op (loByte w)) (cat_hiByte_loByte w)

/-- The instructions that may write IME and ei_pending (R353 to R355, R339). -/
def writesIme : Instr → Bool
  | .di => true
  | .ei => true
  | .reti => true
  | .illegal _ => true
  | _ => false

/-- HALT alone writes halted (R351). -/
def writesHalted : Instr → Bool
  | .halt => true
  | _ => false

/-- exec runs the meaning found, which writes IME and halted where the rules say. -/
theorem meaningOf_spec (i : Instr) : exec i = (meaningOf i).run ∧ (meaningOf i).writes.ime = writesIme i ∧
    (meaningOf i).writes.halted = writesHalted i := by
  cases i
  case prefixCB cbop =>
    have plain : (Meaning.cb cbop).writes.ime = false ∧ (Meaning.cb cbop).writes.halted = false := by
      revert cbop
      decide
    rw [meaningOf_of_byte (d8 := cbop) rfl rfl]
    exact ⟨(Meaning.cb_run cbop).symm, plain⟩
  case ldBD8 d8 | ldCD8 d8 | ldDD8 d8 | ldED8 d8 | ldHD8 d8 | ldLD8 d8 | ldIndHLD8 d8 | ldAD8 d8 | stop d8 | addAD8 d8 |
      adcAD8 d8 | subD8 d8 | sbcAD8 d8 | andD8 d8 | xorD8 d8 | orD8 d8 | cpD8 d8 | jrDisp d8 | jrNZDisp d8 | jrZDisp d8 |
      jrNCDisp d8 | jrCDisp d8 | ldhIndA8A d8 | ldhAIndA8 d8 | addSPDisp d8 | ldHLSPDisp d8 =>
    rw [meaningOf_of_byte (d8 := d8) rfl rfl]
    exact ⟨rfl, rfl, rfl⟩
  case ldBCD16 w | ldDED16 w | ldHLD16 w | ldSPD16 w | ldIndA16SP w | ldIndA16A w | ldAIndA16 w | jpA16 w | jpNZA16 w |
      jpZA16 w | jpNCA16 w | jpCA16 w | callA16 w | callNZA16 w | callZA16 w | callNCA16 w | callCA16 w =>
    rw [meaningOf_of_word (w := w) rfl rfl]
    exact ⟨rfl, rfl, rfl⟩
  all_goals exact ⟨rfl, rfl, rfl⟩

/-- exec runs the meaning that the instruction's words name (R162). -/
theorem exec_eq_run (i : Instr) : exec i = (meaningOf i).run := (meaningOf_spec i).1

/-- What an opcode writes is the tables' entry of its byte, whatever its operand; `illegal` of that byte has its entry. -/
theorem Meaning.ofOpcode_ofNat_writes (n : Nat) (hn : n < 256) (hcb : n ≠ 0xCB) (d8 : Byte) (d16 : Word) :
    let op := BitVec.ofNat 8 n
    (Meaning.ofOpcode op d8 d16).writes.regs = destRegs (.illegal op) ∧
    (Meaning.ofOpcode op d8 d16).writes.sp = spOpcodes.contains op ∧
    (Meaning.ofOpcode op d8 d16).writes.flags = flagsWritten (.illegal op) := by
  rcases Nat.lt_or_gt_of_ne hcb with below | above
  · interval_cases n <;> exact ⟨rfl, rfl, rfl⟩
  · interval_cases n <;> exact ⟨rfl, rfl, rfl⟩

end Sys2Proof.Machine
end

section
/-! SUPPORT. The frame of the CPU registers: an instruction changes those its meaning writes and no others. -/

namespace Sys2Proof.Machine
open Sys2Proof.Forms

/-! ### The flags after an update -/

/-- F holds Z, N, H and C in bits 7 to 4 (R33). -/
theorem packFlags_bits (z n h c : Bool) : bit (packFlags z n h c) 7 = z ∧ bit (packFlags z n h c) 6 = n ∧
    bit (packFlags z n h c) 5 = h ∧ bit (packFlags z n h c) 4 = c := by
  revert z n h c
  decide

section
variable (s : State) (z n h c : Bool)

@[simp] theorem State.setFlags_flagZ : (s.setFlags z n h c).flagZ = z := (packFlags_bits z n h c).1

@[simp] theorem State.setFlags_flagN : (s.setFlags z n h c).flagN = n := (packFlags_bits z n h c).2.1

@[simp] theorem State.setFlags_flagH : (s.setFlags z n h c).flagH = h := (packFlags_bits z n h c).2.2.1

@[simp] theorem State.setFlags_flagC : (s.setFlags z n h c).flagC = c := (packFlags_bits z n h c).2.2.2

end

/-! ### The frame -/

/-- `t` has the CPU registers of `s` but for those of `w`; PC is free. -/
structure SameBut (w : Writes) (s t : State) : Prop where
  reg : ∀ r, r ∉ w.regs → t.getReg r = s.getReg r
  sp : w.sp = false → t.cpu.sp = s.cpu.sp
  ime : w.ime = false → t.cpu.ime = s.cpu.ime ∧ t.cpu.eiPending = s.cpu.eiPending
  halted : w.halted = false → t.cpu.halted = s.cpu.halted
  flagZ : w.flags.1 = false → t.flagZ = s.flagZ
  flagN : w.flags.2.1 = false → t.flagN = s.flagN
  flagH : w.flags.2.2.1 = false → t.flagH = s.flagH
  flagC : w.flags.2.2.2 = false → t.flagC = s.flagC
  f : w.flags = (false, false, false, false) → t.cpu.f = s.cpu.f

namespace SameBut

variable {w : Writes} {s t u : State}

theorem trans (h : SameBut w s t) (h' : SameBut w t u) : SameBut w s u where
  reg r hn := (h'.reg r hn).trans (h.reg r hn)
  sp hn := (h'.sp hn).trans (h.sp hn)
  ime hn := ⟨(h'.ime hn).1.trans (h.ime hn).1, (h'.ime hn).2.trans (h.ime hn).2⟩
  halted hn := (h'.halted hn).trans (h.halted hn)
  flagZ hn := (h'.flagZ hn).trans (h.flagZ hn)
  flagN hn := (h'.flagN hn).trans (h.flagN hn)
  flagH hn := (h'.flagH hn).trans (h.flagH hn)
  flagC hn := (h'.flagC hn).trans (h.flagC hn)
  f hn := (h'.f hn).trans (h.f hn)

/-- An update that leaves F alone. -/
theorem of_f_eq (hf : t.cpu.f = s.cpu.f) (hr : ∀ r, r ∉ w.regs → t.getReg r = s.getReg r)
    (hs : w.sp = false → t.cpu.sp = s.cpu.sp)
    (hi : w.ime = false → t.cpu.ime = s.cpu.ime ∧ t.cpu.eiPending = s.cpu.eiPending)
    (hh : w.halted = false → t.cpu.halted = s.cpu.halted) : SameBut w s t where
  reg := hr
  sp := hs
  ime := hi
  halted := hh
  flagZ _ := by simp only [State.flagZ, hf]
  flagN _ := by simp only [State.flagN, hf]
  flagH _ := by simp only [State.flagH, hf]
  flagC _ := by simp only [State.flagC, hf]
  f _ := hf

/-- An update that leaves every CPU register but PC alone. -/
theorem of_cpu_eq {pc : Word} (hc : t.cpu = { s.cpu with pc := pc }) : SameBut w s t := by
  refine of_f_eq ?_ (fun r _ => ?_) ?_ ?_ ?_
  · rw [hc]
  · cases r <;> simp only [State.getReg, hc]
  all_goals simp [hc]

theorem refl (w : Writes) (s : State) : SameBut w s s := of_cpu_eq rfl

/-- Every update that an operation writing `w` is made of leaves the CPU registers outside `w` alone. -/
theorem keep (w : Writes) (s : State) : w.Keep (SameBut w s) where
  setReg v hr h := h.trans <| of_f_eq (by simp)
    (fun q hq => by rw [State.getReg_setReg, if_neg]; rintro rfl; exact hq hr) (by simp) (by simp) (by simp)
  setSp v hw h := h.trans <| of_f_eq rfl (by simp) (by simp [hw]) (by simp) (by simp)
  setPc v h := h.trans (of_cpu_eq rfl)
  setF v hw h := h.trans <| by constructor <;> simp [hw]
  setFlags hw hz hn hh hc h := h.trans <| by constructor <;> simp_all
  setIme i e hw h := h.trans <| of_f_eq rfl (fun r _ => by cases r <;> rfl) (by simp) (by simp [hw]) (by simp)
  setHalted v hw h := h.trans <| of_f_eq rfl (fun r _ => by cases r <;> rfl) (by simp) (by simp) (by simp [hw])
  setKey1 v h := h.trans (of_cpu_eq rfl)
  memWrite a v h := h.trans (of_cpu_eq (State.memWrite_cpu _ a v))
  noteRead a h := h.trans (of_cpu_eq (State.noteRead_cpu _ a))
  addCycles n h := h.trans (of_cpu_eq rfl)

end SameBut

/-- An instruction leaves the CPU registers that its meaning does not write. -/
theorem exec_sameBut {i : Instr} {s t : State} (h : exec i s = .next t) : SameBut (meaningOf i).writes s t :=
  (meaningOf i).sound (SameBut.keep _ s) (SameBut.refl _ s) t (by rw [← exec_eq_run, h])

/-! ### The tables of the statements -/

theorem Meaning.ofOpcode_writes (op d8 : Byte) (d16 : Word) (hcb : op ≠ 0xCB#8) :
    (Meaning.ofOpcode op d8 d16).writes.regs = destRegs (.illegal op) ∧
    (Meaning.ofOpcode op d8 d16).writes.sp = spOpcodes.contains op ∧
    (Meaning.ofOpcode op d8 d16).writes.flags = flagsWritten (.illegal op) := by
  have h := Meaning.ofOpcode_ofNat_writes op.toNat op.isLt (fun e => hcb (BitVec.eq_of_toNat_eq e)) d8 d16
  rwa [BitVec.ofNat_toNat, BitVec.setWidth_eq] at h

theorem Meaning.cb_writes (cbop : Byte) : (Meaning.cb cbop).writes.regs = destRegs (.prefixCB cbop) ∧
    (Meaning.cb cbop).writes.sp = false ∧ (Meaning.cb cbop).writes.flags = flagsWritten (.prefixCB cbop) := by
  revert cbop
  decide

/-- The tables read the first byte of an instruction, and the second after 0xCB. -/
theorem tables_of_head {i : Instr} (hcb : (encode i).headD 0 ≠ 0xCB#8) :
    destRegs i = destRegs (.illegal ((encode i).headD 0)) ∧
    flagsWritten i = flagsWritten (.illegal ((encode i).headD 0)) := by
  constructor
  · unfold destRegs
    rw [if_neg hcb]
    exact (if_neg hcb).symm
  · unfold flagsWritten
    dsimp only
    rw [if_neg hcb]
    exact (if_neg hcb).symm

theorem tables_of_cb {i : Instr} (hcb : (encode i).headD 0 = 0xCB#8) :
    destRegs i = destRegs (.prefixCB ((encode i).getD 1 0)) ∧
    flagsWritten i = flagsWritten (.prefixCB ((encode i).getD 1 0)) := by
  constructor
  · unfold destRegs
    rw [if_pos hcb]
    rfl
  · unfold flagsWritten
    dsimp only
    rw [if_pos hcb]
    rfl

/-- The meaning of an instruction writes no more than the tables of the statements say. -/
theorem meaningOf_writes (i : Instr) :
    (meaningOf i).writes.regs ⊆ destRegs i ∧
    (spOpcodes.contains ((encode i).headD 0) = false → (meaningOf i).writes.sp = false) ∧
    ((meaningOf i).writes.flags = flagsWritten i ∨ (meaningOf i).writes.flags = (false, false, false, false)) := by
  unfold meaningOf
  split
  · exact ⟨List.nil_subset _, fun _ => rfl, .inr rfl⟩
  · by_cases hcb : (encode i).headD 0 = 0xCB#8
    · obtain ⟨hd, hf⟩ := tables_of_cb hcb
      obtain ⟨hr, hs, hw⟩ := Meaning.cb_writes ((encode i).getD 1 0)
      rw [hcb, hd, hf]
      exact ⟨hr ▸ List.Subset.refl _, fun _ => hs, .inl hw⟩
    · obtain ⟨hd, hf⟩ := tables_of_head hcb
      obtain ⟨hr, hs, hw⟩ := Meaning.ofOpcode_writes _ ((encode i).getD 1 0)
        (cat ((encode i).getD 2 0) ((encode i).getD 1 0)) hcb
      rw [hd, hf]
      exact ⟨hr ▸ List.Subset.refl _, hs.trans, .inl hw⟩

/-- Where it runs as a no-op it writes no CPU register (R355). -/
theorem exec_illegal_nop {op : Byte} {s t : State} (hp : s.params.illegalOpcode = .nop)
    (h : exec (.illegal op) s = .next t) : t.cpu = s.cpu := by
  have he : exec (.illegal op) s = s.done 4 := by
    show execIllegal op s = _
    unfold execIllegal
    rw [hp]
  rw [he] at h
  exact Host.Outcome.next.inj h ▸ rfl

end Sys2Proof.Machine

namespace Sys2Proof.Proofs
open Sys2Proof.Machine Sys2Proof.Forms

/-- Settles O11: an instruction writes the registers of its meaning alone, which the tables name. -/
theorem registerFrame : Obligations.RegisterFrame := by
  intro i s t h
  have hs := exec_sameBut h
  obtain ⟨hreg, hsp, -⟩ := meaningOf_writes i
  obtain ⟨-, hime, hhalt⟩ := meaningOf_spec i
  refine ⟨fun r hr => hs.reg r fun hm => hr (hreg hm), fun h => hs.sp (hsp h), fun hdi hei hreti hill => ?_,
    fun hne => hs.halted ?_⟩
  · by_cases hi : ∃ op, i = .illegal op
    · obtain ⟨op, rfl⟩ := hi
      rw [exec_illegal_nop (hill op rfl) h]
      exact ⟨rfl, rfl⟩
    · refine hs.ime (hime.trans ?_)
      unfold writesIme
      split <;> simp_all
  · rw [hhalt]
    unfold writesHalted
    split <;> simp_all

/-- Settles O12: the flags of an instruction's meaning are those that the table names, or none. -/
theorem flagFrame : Obligations.FlagFrame := by
  intro i s t h
  have hs := exec_sameBut h
  obtain ⟨-, -, hw | hw⟩ := meaningOf_writes i
  · rw [← hw]
    exact ⟨hs.flagZ, hs.flagN, hs.flagH, hs.flagC, hs.f⟩
  · have hf := hs.f hw
    simp only [oldZ, oldN, oldH, oldC, hf, implies_true, and_self]

end Sys2Proof.Proofs
end

section
/-! SUPPORT. The invariant of Safety.lean through a whole step: the host calls, the driver's transition, the poll, the
instruction, and the tick. -/

namespace Sys2Proof.Machine

/-! ### An instruction -/

/-- Every update that an operation is made of keeps the invariant. -/
theorem State.inv_keep (w : Writes) : w.Keep State.Inv where
  setReg v _ h := State.setReg_inv h _ v
  setSp v _ h := State.setSp_inv h v
  setPc v h := State.setPc_inv h v
  setF v _ h := State.setF_inv h v
  setFlags _ _ _ _ _ h := State.setFlags_inv h _ _ _ _
  setIme _ _ _ h := h.withCpu _ h.1
  setHalted _ _ h := h.withCpu _ h.1
  setKey1 v h := State.setMem_inv h v (by decide) (by decide)
  memWrite a v h := State.memWrite_inv h a v
  noteRead a h := State.noteRead_inv h a
  addCycles n h := State.addCycles_inv h n

theorem exec_inv {s : State} (h : s.Inv) (i : Instr) : Answers (exec i s) State.Inv := by
  rw [exec_eq_run]
  exact (meaningOf i).sound (State.inv_keep _) h

theorem State.fetchInstr_inv {s : State} (h : s.Inv) : s.fetchInstr.2.Inv := by
  have h1 := State.fetch8_inv h
  have h2 := State.fetch8_inv h1
  unfold State.fetchInstr
  dsimp only
  split
  · exact h1
  · exact h1
  · exact h2
  · exact State.fetch8_inv h2

theorem cpuStep_inv {s : State} (h : s.Inv) : Answers (cpuStep s) State.Inv :=
  answers_ite (answers_next (State.addCycles_inv h 4)) (exec_inv (State.fetchInstr_inv h) s.fetchInstr.1)

/-! ### The timer and the driver -/

theorem answers_onNext {r : Result} {P Q : State → Prop} {f : State → State} (h : Answers r P) (hf : ∀ s, P s → Q (f s)) :
    Answers (onNext r f) Q := by
  cases r with
  | next s => exact answers_next (hf s (h s rfl))
  | fault e => exact nomatch e
  | refused e => exact answers_refused

/-- The charge of a machine step to cycle_balance only lowers it (R470). -/
theorem State.charge_inv {s : State} (h : s.Inv) (n : Nat) :
    State.Inv { s with driver := { s.driver with cycleBalance := s.driver.cycleBalance - n } } := by
  obtain ⟨hf, hr, hc, ht, hp, hd⟩ := h
  refine ⟨hf, hr, hc, ht, hp, ?_⟩
  simp only [Driver.wf, Bool.and_eq_true, decide_eq_true_eq] at hd ⊢
  exact ⟨hd.1, by omega⟩

theorem State.endStep_inv {s : State} (h : s.Inv) : s.endStep.Inv :=
  State.charge_inv (State.tick_inv h s.stepCycles) _

theorem machineStep_inv {s : State} (h : s.Inv) : Answers (machineStep s) State.Inv :=
  answers_onNext (cpuStep_inv (State.commitEi_inv (State.pollAndService_inv h))) fun _ => State.endStep_inv

@[simp] theorem State.setLY_driver (s : State) (l : Nat) : (s.setLY l).driver = s.driver := by
  simp only [State.setLY]
  split
  · split <;> rfl
  · rfl

@[simp] theorem State.setMode_driver (s : State) (m : BitVec 2) : (s.setMode m).driver = s.driver := by
  simp only [State.setMode]
  split <;> rfl

section
variable {s : State} (h : s.Inv) (hb : s.driver.cycleBalance ≤ 0)
include h hb

theorem State.startLine_inv {l : Nat} (hl : l < 144) : (s.startLine l).Inv :=
  State.startBudget_inv (State.setMode_inv (State.setLY_inv h l) 2) (decide_eq_true hl) (by decide) (by simpa using hb)

theorem State.startTransfer_inv {l : Nat} (hl : l < 144) : (s.startTransfer l).Inv := by
  have hm := State.setMode_inv h 3
  have ht : (s.setMode 3).takeSnapshot.Inv := hm.congr rfl rfl rfl rfl rfl rfl
  exact State.startBudget_inv (State.renderLine_inv ht hl) (decide_eq_true hl) (by decide) (by simpa using hb)

theorem State.startHblank_inv {l : Nat} (hl : l < 144) : (s.startHblank l).Inv :=
  State.startBudget_inv (State.setMode_inv h 0) (decide_eq_true hl) (by decide) (by simpa using hb)

theorem State.startVblank_inv {l : Nat} (hl : 144 ≤ l) (hu : l < 154) : (s.startVblank l).Inv := by
  have h1 := State.setMode_inv (State.setLY_inv h l) 1
  have hp : (Phase.vblank l).wf = true := by simp [Phase.wf, hl, hu]
  unfold State.startVblank
  dsimp only
  split
  · exact State.startBudget_inv (State.requestInterrupt_inv h1 0) hp (by decide) (by simpa using hb)
  · exact State.startBudget_inv h1 hp (by decide) (by simpa using hb)

theorem State.startIdle_inv {k : Nat} (hk : k < 154) : (s.startIdle k).Inv :=
  State.startBudget_inv (State.putMode_inv (State.setMem_inv h _ (by decide) (by decide)) 0) (decide_eq_true hk) (by decide)
    (by simpa using hb)

theorem State.beginFrame_inv : s.beginFrame.Inv := by
  unfold State.beginFrame
  split
  · exact State.startLine_inv h hb (by decide)
  · exact State.startIdle_inv h hb (by decide)

omit hb in
/-- The frame handed over is the frame buffer, canonical as that is (R471). -/
theorem State.copyFrame_inv : s.copyFrame.Inv := by
  obtain ⟨hf, hr, hc, ht, hp, hd⟩ := h
  refine ⟨hf, hr, hc, ht, hp, ?_⟩
  simp only [Driver.wf, Bool.and_eq_true] at hd ⊢
  exact ⟨⟨hd.1.1, hp⟩, hd.2⟩

omit hb in
theorem State.returnFrame_inv : s.returnFrame.Inv := by
  obtain ⟨hf, hr, hc, ht, hp, hd⟩ := h
  refine ⟨hf, hr, hc, ht, hp, ?_⟩
  simp only [Driver.wf, Bool.and_eq_true] at hd ⊢
  exact ⟨⟨rfl, hd.1.2⟩, hd.2⟩

/-- A transition goes from a line of the position it leaves to a line of the one it enters (R471). -/
theorem State.driverAdvance_inv : s.driverAdvance.Inv := by
  have ⟨_, _, _, _, _, hd⟩ := h
  simp only [Driver.wf, Bool.and_eq_true] at hd
  obtain ⟨⟨hw, -⟩, -⟩ := hd
  unfold State.driverAdvance
  split
  next => exact State.beginFrame_inv h hb
  next k _ =>
    split
    · exact State.startIdle_inv h hb (by omega)
    · exact State.beginFrame_inv h hb
  next l hp => rw [hp] at hw; exact State.startTransfer_inv h hb (of_decide_eq_true hw)
  next l hp => rw [hp] at hw; exact State.startHblank_inv h hb (of_decide_eq_true hw)
  next l _ =>
    split
    · exact State.startLine_inv h hb (by omega)
    · exact State.startVblank_inv (State.copyFrame_inv h) hb (by decide) (by decide)
  next l hp =>
    rw [hp] at hw
    simp only [Phase.wf, Bool.and_eq_true, decide_eq_true_eq] at hw
    split
    · exact State.startVblank_inv h hb (by omega) (by omega)
    · exact State.returnFrame_inv h

end

theorem State.driverTurn_inv {s : State} (h : s.Inv) : s.driverTurn.Inv := by
  unfold State.driverTurn
  split
  · exact h
  · exact State.driverAdvance_inv h (by omega)

theorem frameTurn_inv {s : State} (h : s.Inv) : Answers (frameTurn s) State.Inv :=
  answers_ite (machineStep_inv (State.driverTurn_inv h)) (answers_next (State.driverTurn_inv h))

/-! ### The host calls -/

theorem resetCpu_f_low (p : Params) : (resetCpu p).f &&& 0x0F#8 = 0 := by
  unfold resetCpu
  split <;> rfl

theorem resetCart_wf (image : RomImage) : (resetCart image).wf = true := by
  simp only [Cart.wf, Bool.and_eq_true]
  exact ⟨Store.wf_fill _ _ _, rfl⟩

/-- load_rom leaves a state of the invariant, whatever the parameters, the image and the draws (R500). -/
theorem State.loaded_inv (p : Params) (image : RomImage) (draws : Ram) : (State.loaded p image draws).Inv :=
  ⟨resetCpu_f_low p, Memory.wf_resetRam p draws, resetCart_wf image, rfl, rfl, rfl⟩

theorem State.loadRom_inv (s : State) (path : Nat) (image : RomImage) (draws : Ram) : (s.loadRom path image draws).Inv :=
  ⟨resetCpu_f_low s.params, Memory.wf_resetRam s.params draws, resetCart_wf image, rfl, rfl, rfl⟩

theorem State.restoreRam_wf {s : State} (h : Memory.wf s.ram = true) (saved : Ram) :
    Memory.wf (s.restoreRam saved) = true := by
  obtain ⟨-, hv, hw, hb, ho⟩ := (Memory.wf_iff s.ram).mp h
  rw [Memory.wf_iff]
  unfold State.restoreRam
  dsimp only
  split
  · exact ⟨Store.wf_fill .., Store.wf_fill .., Store.wf_fill .., Store.wf_fill .., Store.wf_fill ..⟩
  · exact ⟨Store.wf_fill .., hv, hw, hb, ho⟩

/-- What the host is told is no part of the invariant. -/
theorem State.report_inv {s : State} (h : s.Inv) (ok : Bool) : (s.report ok).Inv := h.congr rfl rfl rfl rfl rfl rfl

theorem State.setSav_inv {s : State} (h : s.Inv) (path : Nat) (file : Option SaveData) : (s.setSav path file).Inv :=
  h.congr rfl rfl rfl rfl rfl rfl

theorem State.loadState_inv {s : State} (h : s.Inv) : s.loadState.Inv := by
  unfold State.loadState
  split
  · exact State.report_inv h false
  · next d _ =>
    split
    · exact ⟨and_mask_low d.cpu.f, State.restoreRam_wf h.2.1 d.ram, h.2.2⟩
    · exact State.report_inv h false

theorem State.press_inv {s : State} (h : s.Inv) (b : Nat) : (s.press b).Inv := by
  unfold State.press
  dsimp only
  split
  · exact (State.requestInterrupt_inv h 4).congr rfl rfl rfl rfl rfl rfl
  · exact h.congr rfl rfl rfl rfl rfl rfl

theorem State.betweenFrames_inv {s t : State} (h : t.Inv) : Answers (s.betweenFrames t) State.Inv :=
  answers_ite (answers_next h) answers_refused

/-- A call of the host keeps the invariant (R483). -/
theorem hostCall_inv {s : State} (h : s.Inv) (c : HostCall) : Answers (hostCall c s) State.Inv := by
  unfold hostCall
  split
  next b => exact answers_ite (answers_next (State.press_inv h b)) answers_refused
  next => exact answers_ite (answers_next (h.congr rfl rfl rfl rfl rfl rfl)) answers_refused
  next => exact answers_next (h.congr rfl rfl rfl rfl rfl rfl)
  next => exact State.betweenFrames_inv (State.setSav_inv h _ _)
  next => exact State.betweenFrames_inv (State.loadState_inv h)
  next => exact answers_refused
  next path image draws => exact State.betweenFrames_inv (State.loadRom_inv s path image draws)
  next path file => exact State.betweenFrames_inv (State.setSav_inv h path file)

theorem hostCalls_inv (cs : List HostCall) {s : State} (h : s.Inv) : Answers (hostCalls cs s) State.Inv := by
  induction cs generalizing s with
  | nil => exact answers_next h
  | cons c cs ih =>
    have hc := hostCall_inv h c
    unfold hostCalls
    split
    next s1 e => exact ih (hc s1 e)
    next e _ => exact nomatch e
    next => exact answers_refused

theorem hostTurn_inv {s : State} (h : s.Inv) : Answers (hostTurn s) State.Inv := by
  unfold hostTurn
  split
  · exact answers_next h
  · exact hostCalls_inv _ (h.congr rfl rfl rfl rfl rfl rfl)

/-- A step keeps the invariant: the host's turn does, and then the driver's and the machine's. -/
theorem step_inv {s : State} (h : s.Inv) : Answers (step s) State.Inv := by
  have hh : Answers (hostTurn { s with stepCycles := 0 }) State.Inv := hostTurn_inv (h.congr rfl rfl rfl rfl rfl rfl)
  unfold step
  split
  next s1 e => exact frameTurn_inv (hh s1 e)
  next e _ => exact nomatch e
  next => exact answers_refused

end Sys2Proof.Machine

namespace Sys2Proof.Proofs
open Sys2Proof.Machine

/-- Settles O6: the reset state is one that load_rom leaves. -/
theorem invariantHoldsAtReset : Obligations.InvariantHoldsAtReset := State.loaded_inv _ _ _

/-- Settles O7: each part of a step keeps the invariant. -/
theorem stepKeepsInvariant : Obligations.StepKeepsInvariant := fun _ t h e => step_inv h t e

end Sys2Proof.Proofs
end

section
/-! SUPPORT. The registers, the ports and load_rom: what the statements read off one update of the state. -/

namespace Sys2Proof

/-! ### Reading a store after many writes -/

/-- A cell not written over keeps what it held. -/
theorem Store.read_foldl_write_of_notMem {w : Nat} (cells : Store w) {m : Store w} {a : Nat} (h : ∀ c ∈ cells, a ≠ c.1) :
    (cells.foldl (fun m c => m.write c.1 c.2) m).read a = m.read a := by
  induction cells generalizing m with
  | nil => rfl
  | cons c cells ih =>
    obtain ⟨hc, hcells⟩ := List.forall_mem_cons.mp h
    rw [List.foldl_cons, ih hcells, Store.read_write_ne _ _ hc]

/-- Of cells with different indexes, each is read back. -/
theorem Store.read_foldl_write_of_mem {w : Nat} (cells : Store w) {m : Store w} {c : Nat × BitVec w}
    (hn : (cells.map Prod.fst).Nodup) (h : c ∈ cells) :
    (cells.foldl (fun m c => m.write c.1 c.2) m).read c.1 = c.2 := by
  induction cells generalizing m with
  | nil => cases h
  | cons d cells ih =>
    rw [List.map_cons, List.nodup_cons] at hn
    rw [List.foldl_cons]
    rcases List.mem_cons.mp h with rfl | h
    · rw [Store.read_foldl_write_of_notMem, Store.read_write_same]
      intro e he eq
      exact hn.1 (eq ▸ List.mem_map_of_mem he)
    · exact ih hn.2 h

end Sys2Proof

namespace Sys2Proof.Machine
open Sys2Proof.Forms

/-! ### load_rom -/

/-- What RAM_INIT leaves at an index that no rule names: 0, or the drawn byte (R504). -/
def initByte (p : Params) (draws : Store 8) (a : Nat) : Byte :=
  match p.ramInit with
  | .zero => 0
  | .draw => draws.read a

theorem initBytes_read (p : Params) {lo hi : Nat} {draws : Store 8} (h : draws.wf lo hi = true) (a : Nat) :
    (initBytes p lo hi draws).read a = initByte p draws a := by
  unfold initBytes initByte
  cases p.ramInit with
  | zero => rfl
  | draw => exact congrArg (Store.read · a) (Store.fill_of_wf h)

/-- The I/O bytes of R80 for a color mode. -/
def ioCells : ColorMode → List (Nat × Byte)
  | .dmg => ioReset
  | .cgb => ioReset ++ ioResetCgb

theorem resetRam_mem (p : Params) (draws : Ram) : (resetRam p draws).mem =
    (ioCells p.colorMode).foldl (fun m c => m.write c.1 c.2) (initBytes p 0x8000 0x10000 draws.mem) := by
  unfold resetRam ioCells
  cases p.colorMode <;> dsimp only

theorem ioCells_nodup (m : ColorMode) : ((ioCells m).map Prod.fst).Nodup := by
  cases m <;> decide

theorem ioTable_sub_ioCells (m : ColorMode) : ∀ c ∈ ioTable, c ∈ ioCells m := by
  cases m <;> decide

theorem ioTableCgb_sub_ioCells : ∀ c ∈ ioTableCgb, c ∈ ioCells .cgb := by decide

theorem ioCells_sub_tables (m : ColorMode) : ∀ c ∈ ioCells m, c ∈ ioTable ∨ m = .cgb ∧ c ∈ ioTableCgb := by
  cases m <;> decide

/-- Each I/O byte of the mode reads as R80 gives it. -/
theorem resetRam_read_io (p : Params) (draws : Ram) {c : Nat × Byte} (hc : c ∈ ioCells p.colorMode) :
    (resetRam p draws).mem.read c.1 = c.2 := by
  rw [resetRam_mem]
  exact Store.read_foldl_write_of_mem _ (ioCells_nodup _) hc

/-- Every other byte is as RAM_INIT says (R504). -/
theorem resetRam_read_init (p : Params) {draws : Ram} (hd : Memory.wf draws = true) {a : Nat}
    (ha : ∀ c ∈ ioTable, a ≠ c.1) (hg : p.colorMode = .cgb → ∀ c ∈ ioTableCgb, a ≠ c.1) :
    (resetRam p draws).mem.read a = initByte p draws.mem a := by
  rw [resetRam_mem, Store.read_foldl_write_of_notMem, initBytes_read p ((Memory.wf_iff draws).mp hd).1]
  intro c hc
  rcases ioCells_sub_tables _ c hc with h | ⟨hm, h⟩
  · exact ha c h
  · exact hg hm c h

/-- In CGB mode the palettes and the further banks exist: BGPAL all 0xFF, the others as RAM_INIT says (R80, R504). -/
theorem resetRam_cgb {p : Params} {draws : Ram} (hd : Memory.wf draws = true) (hp : p.colorMode = .cgb) :
    (∀ i, i < 64 → (resetRam p draws).bgPal.read i = 0xFF) ∧
    (∀ i, (resetRam p draws).objPal.read i = initByte p draws.objPal i) ∧
    (∀ i, (resetRam p draws).vram1.read i = initByte p draws.vram1 i) ∧
    ∀ i, (resetRam p draws).wramx.read i = initByte p draws.wramx i := by
  obtain ⟨-, hv, hw, -, ho⟩ := (Memory.wf_iff draws).mp hd
  have white : ∀ i, i < 64 → Store.read ((List.range 64).map fun i => (i, 0xFF#8)) i = 0xFF := by decide
  unfold resetRam
  rw [hp]
  exact ⟨white, initBytes_read p ho, initBytes_read p hv, initBytes_read p hw⟩

/-- The machine right after load_rom is in the reset state of R80 to R82. -/
theorem resetState_loaded (p : Params) {image : RomImage} {draws : Ram} (hd : Memory.wf draws = true)
    (hi : image.bytes.wf 0 image.size = true) : ResetState p image draws (State.loaded p image draws) := by
  have hcpu : (State.loaded p image draws).cpu = resetCpu p := rfl
  refine ⟨rfl, fun h => ?_, fun h => ?_, fun c hc => resetRam_read_io p draws (ioTable_sub_ioCells _ c hc), fun h c hc => ?_,
    rfl, rfl, fun h => ?_, fun a _ _ ha hg => resetRam_read_init p hd ha hg, rfl, fun o => ?_, rfl, rfl, rfl, rfl,
    fun _ => rfl, rfl, rfl⟩
  · rw [hcpu, resetCpu, h]
  · rw [hcpu, resetCpu, h]
  · exact resetRam_read_io p draws (h ▸ ioTableCgb_sub_ioCells c hc)
  · obtain ⟨hb, ho, hv, hw⟩ := resetRam_cgb hd h
    exact ⟨hb, fun i _ => ho i, fun i _ => hv i, fun i _ _ => hw i⟩
  · exact congrArg (Store.read · o) (Store.fill_of_wf hi)

/-- load_rom resets the machine from any state (R500). -/
theorem resetState_loadRom (s : State) (path : Nat) {image : RomImage} {draws : Ram} (hd : Memory.wf draws = true)
    (hi : image.bytes.wf 0 image.size = true) : ResetState s.params image draws (s.loadRom path image draws) :=
  resetState_loaded s.params hd hi

end Sys2Proof.Machine

namespace Sys2Proof.Proofs
open Sys2Proof.Machine Sys2Proof.Forms

/-- Settles O22: the laws of the registers and of their pairs, and the bits of F after a write of it. -/
theorem registerPairsAlias : Obligations.RegisterPairsAlias := by
  refine ⟨State.getReg_setReg, fun s => ⟨rfl, rfl, rfl, rfl, rfl⟩,
    fun s v => ⟨⟨rfl, rfl, rfl, rfl, rfl⟩, hiByte_toNat v, loByte_toNat v⟩, cat_toNat, State.setF_cpu_f,
    fun s z n h c => ?_⟩
  exact ⟨packFlags_low z n h c, s.setFlags_flagZ z n h c, s.setFlags_flagN z n h c, s.setFlags_flagH z n h c,
    s.setFlags_flagC z n h c, rfl⟩

/-- Settles O17: each port is one branch of MemWrite; SB and KEY1 lie past the tests of the color mode. -/
theorem portWrites : Obligations.PortWrites := by
  intro s v
  refine ⟨rfl, fun h => ?_, fun h => ?_, rfl, rfl, ?_, rfl, fun h => ?_⟩
  · exact s.memRead_div.trans (by rw [State.divRead, h])
  · exact s.memRead_div.trans (by rw [State.divRead, h])
  · simp [State.memWrite, State.setMem]
  · simp [State.memWrite, State.setMem, State.isCgb, h, State.mem]

/-- Settles O60: load_rom leaves the reset state in every block, and between frames it is answered. -/
theorem loadRomResets : Obligations.LoadRomResets := by
  intro image draws hd hi
  refine ⟨fun p => resetState_loaded p hd hi, fun s path hs _ => ?_, fun _ _ => rfl⟩
  exact ⟨s.loadRom path image draws, if_pos hs, resetState_loadRom s path hd hi, s.loadRom_savFiles path image draws⟩

end Sys2Proof.Proofs
end

section
/-! SUPPORT. The decoder and the encoder are inverse: what decoded bytes are written as, and what written words decode
to. -/

namespace Sys2Proof
open Sys2Proof.Machine

/-- LEN of an opcode byte is 1, 2 or 3 (R169). -/
theorem instrLength_cases (op : Byte) : instrLength op = 1 ∨ instrLength op = 2 ∨ instrLength op = 3 := by
  revert op
  decide

/-! ### The words of decoded bytes -/

/-- A CB instruction's words are 0xCB and the byte that names it (R171). -/
theorem decodeCb_words (cbop : Byte) : (decodeCb cbop).wellFormed = true ∧ isIllegal (decodeCb cbop) = false ∧
    encode (decodeCb cbop) = [0xCB, cbop] := by
  revert cbop
  decide

/-- Only an operand word reads the third byte, so the words that carry one are written from its two bytes (R160). -/
theorem decodeBytes_ofNat_words (n : Nat) (hn : n < 256) (b1 b2 : Byte) :
    let op := BitVec.ofNat 8 n
    (decodeBytes op b1 b2).wellFormed = true ∧ encode (decodeBytes op b1 b2) =
      [op, if instrLength op = 3 then loByte (cat b2 b1) else b1, hiByte (cat b2 b1)].take (instrLength op) := by
  by_cases hcb : n = 0xCB
  · subst hcb
    obtain ⟨hw, -, he⟩ := decodeCb_words b1
    exact ⟨hw, he⟩
  · rcases Nat.lt_or_gt_of_ne hcb with below | above
    · interval_cases n <;> exact ⟨rfl, rfl⟩
    · interval_cases n <;> exact ⟨rfl, rfl⟩

theorem decodeBytes_words (op b1 b2 : Byte) : (decodeBytes op b1 b2).wellFormed = true ∧
    encode (decodeBytes op b1 b2) = [op, b1, b2].take (instrLength op) := by
  have h := decodeBytes_ofNat_words op.toNat op.isLt b1 b2
  simpa only [BitVec.ofNat_toNat, BitVec.setWidth_eq, loByte_cat, hiByte_cat, ite_self] using h

/-- Whatever three bytes are decoded, the instruction is well formed (R174). -/
theorem decodeBytes_wellFormed (op b1 b2 : Byte) : (decodeBytes op b1 b2).wellFormed = true :=
  (decodeBytes_words op b1 b2).1

/-- The words of decoded bytes are those bytes, as many as LEN of the first (R174). -/
theorem encode_decodeBytes (op b1 b2 : Byte) :
    encode (decodeBytes op b1 b2) = [op, b1, b2].take (instrLength op) :=
  (decodeBytes_words op b1 b2).2

theorem length_encode_decodeBytes (op b1 b2 : Byte) : (encode (decodeBytes op b1 b2)).length = instrLength op := by
  rw [encode_decodeBytes, List.length_take, Nat.min_eq_left]
  rcases instrLength_cases op with h | h | h <;> simp [h]

/-! ### What the decoder answers -/

/-- The decoder answers `i` exactly where the bytes are those of `i`, as many as LEN of the first, and those left over. -/
theorem decode_eq_ok_iff {bs rest : List Byte} {i : Instr} : decode bs = .ok (i, rest) ↔
    ∃ op b1 b2, i = decodeBytes op b1 b2 ∧ bs = [op, b1, b2].take (instrLength op) ++ rest := by
  constructor
  · intro h
    match bs, h with
    | [op], h =>
      rcases instrLength_cases op with hl | hl | hl <;> simp [decode, hl] at h
      exact ⟨op, 0, 0, h.1.symm, by simp [hl, ← h.2]⟩
    | [op, b1], h =>
      rcases instrLength_cases op with hl | hl | hl <;> simp [decode, hl] at h
      all_goals exact ⟨op, b1, 0, h.1.symm, by simp [hl, ← h.2]⟩
    | op :: b1 :: b2 :: tail, h =>
      rcases instrLength_cases op with hl | hl | hl <;> simp [decode, hl] at h
      all_goals exact ⟨op, b1, b2, h.1.symm, by simp [hl, ← h.2]⟩
  · rintro ⟨op, b1, b2, rfl, rfl⟩
    have ignores (c1 c2 : Byte) (h1 : instrLength op ≠ 1 → c1 = b1) (h2 : instrLength op = 3 → c2 = b2) :
        decodeBytes op c1 c2 = decodeBytes op b1 b2 := decodeBytes_congr op c1 c2 b1 b2 h1 h2
    rcases instrLength_cases op with hl | hl | hl
    · match rest with
      | [] => simp [decode, hl, ignores]
      | [x] => simp [decode, hl, ignores]
      | x :: y :: tail => simp [decode, hl, ignores]
    · match rest with
      | [] => simp [decode, hl, ignores]
      | x :: tail => simp [decode, hl, ignores]
    · simp [decode, hl]

/-! ### What written words decode to -/

theorem decodeBytes_of_byte {i : Instr} {op d8 : Byte} (he : encode i = [op, d8]) (hd : decodeBytes op d8 0 = i) :
    decodeBytes ((encode i).headD 0) ((encode i).getD 1 0) ((encode i).getD 2 0) = i := by
  rw [he]
  exact hd

/-- An operand word is the two bytes after the opcode, the low byte first (R160). -/
theorem decodeBytes_of_word {f : Word → Instr} {op : Byte} {w : Word} (he : encode (f w) = [op, loByte w, hiByte w])
    (hd : ∀ lo hi, decodeBytes op lo hi = f (cat hi lo)) :
    decodeBytes ((encode (f w)).headD 0) ((encode (f w)).getD 1 0) ((encode (f w)).getD 2 0) = f w := by
  rw [he]
  exact (hd _ _).trans (congrArg f (cat_hiByte_loByte w))

/-- The opcode maps name every well-formed instruction at its own words (R168, R171). -/
theorem decodeBytes_encode {i : Instr} (h : i.wellFormed = true) :
    decodeBytes ((encode i).headD 0) ((encode i).getD 1 0) ((encode i).getD 2 0) = i := by
  cases i
  case prefixCB => cases h
  case illegal op =>
    revert op
    decide
  case ldBD8 d8 | ldCD8 d8 | ldDD8 d8 | ldED8 d8 | ldHD8 d8 | ldLD8 d8 | ldIndHLD8 d8 | ldAD8 d8 | stop d8 | addAD8 d8 |
      adcAD8 d8 | subD8 d8 | sbcAD8 d8 | andD8 d8 | xorD8 d8 | orD8 d8 | cpD8 d8 | jrDisp d8 | jrNZDisp d8 | jrZDisp d8 |
      jrNCDisp d8 | jrCDisp d8 | ldhIndA8A d8 | ldhAIndA8 d8 | addSPDisp d8 | ldHLSPDisp d8 =>
    exact decodeBytes_of_byte (d8 := d8) rfl rfl
  case ldBCD16 w | ldDED16 w | ldHLD16 w | ldSPD16 w | ldIndA16SP w | ldIndA16A w | ldAIndA16 w | jpA16 w | jpNZA16 w |
      jpZA16 w | jpNCA16 w | jpCA16 w | callA16 w | callNZA16 w | callZA16 w | callNCA16 w | callCA16 w =>
    exact decodeBytes_of_word (w := w) rfl fun _ _ => rfl
  all_goals rfl

end Sys2Proof

namespace Sys2Proof.Proofs

/-- Settles O2: a well-formed instruction is what some bytes decode to, and its words are those bytes. -/
theorem decodeEncodeRoundTrip : Obligations.DecodeEncodeRoundTrip := by
  intro i rest h
  refine decode_eq_ok_iff.mpr ⟨_, _, _, (decodeBytes_encode h).symm, ?_⟩
  rw [← encode_decodeBytes, decodeBytes_encode h]

/-- Settles O3: the bytes that decode are the instruction's, as many as LEN of the first, and those left over. -/
theorem decodedInstructionEncodesBack : Obligations.DecodedInstructionEncodesBack := by
  refine ⟨fun bs h => ?_, fun bs i rest h => ?_, rfl, rfl⟩
  · match bs, h with
    | op :: b1 :: b2 :: tail, _ => exact ⟨_, _, rfl⟩
  · obtain ⟨op, b1, b2, rfl, rfl⟩ := decode_eq_ok_iff.mp h
    refine ⟨decodeBytes_wellFormed op b1 b2, by rw [encode_decodeBytes], ?_⟩
    rw [length_encode_decodeBytes]
    rcases instrLength_cases op with hl | hl | hl <;> simp [hl]

end Sys2Proof.Proofs
end

section
/-! SUPPORT. The fetch: the bytes it reads, and where it leaves PC. -/

namespace Sys2Proof.Machine

/-- A read changes no more than the count of DIV draws. -/
theorem State.noteRead_frame (s : State) (a : Word) : s.noteRead a = { s with divDraws := (s.noteRead a).divDraws } := by
  unfold State.noteRead
  split
  · rfl
  · split <;> rfl

/-- Of two addresses one at most is DIV's, so a read of one leaves what the other reads. -/
theorem State.memRead_noteRead {a b : Word} (s : State) (h : b ≠ a) : (s.noteRead a).memRead b = s.memRead b := by
  refine State.memRead_congr b (by simp) (by simp) (by simp) (by simp) (by simp) ?_
  by_cases ha : a = 0xFF04#16
  · exact .inr (.inr (ha ▸ h))
  · exact .inl (by rw [State.noteRead_eq s a (.inr ha)])

/-- `s` with PC past `k` bytes and `d` DIV draws. -/
def State.past (s : State) (k d : Nat) : State :=
  { s with cpu := { s.cpu with pc := s.cpu.pc + BitVec.ofNat 16 k }, divDraws := d }

/-- `t` is `s` after the fetch of `k` bytes from PC on, which leaves what the addresses past them read (R11). -/
structure Fetched (s : State) (k : Nat) (t : State) : Prop where
  past : ∃ d, t = s.past k d
  draws : s.params.divRead = .counter → t.divDraws = s.divDraws
  read : ∀ a, (∀ j < k, a ≠ s.cpu.pc + BitVec.ofNat 16 j) → t.memRead a = s.memRead a

namespace Fetched

variable {s t : State} {k : Nat}

theorem refl (s : State) : Fetched s 0 s := ⟨⟨s.divDraws, by simp [State.past]⟩, fun _ => rfl, fun _ _ => rfl⟩

theorem pc (h : Fetched s k t) : t.cpu.pc = s.cpu.pc + BitVec.ofNat 16 k := by
  obtain ⟨d, rfl⟩ := h.past
  rfl

theorem fetch8 (h : Fetched s k t) : Fetched s (k + 1) t.fetch8.2 where
  past := by
    obtain ⟨d, rfl⟩ := h.past
    refine ⟨((s.past k d).noteRead (s.past k d).cpu.pc).divDraws, ?_⟩
    rw [State.fetch8_snd, State.noteRead_frame]
    simp [State.setPc, State.past, BitVec.ofNat_add, BitVec.add_assoc]
  draws hc := by
    obtain ⟨d, rfl⟩ := h.past
    rw [State.fetch8_snd, State.noteRead_eq (s.past k d) _ (.inl hc)]
    exact h.draws hc
  read a ha := by
    rw [State.fetch8_snd]
    have hpc : a ≠ t.cpu.pc := h.pc ▸ ha k (Nat.lt_succ_self k)
    calc ((t.noteRead t.cpu.pc).setPc (t.cpu.pc + 1)).memRead a
        = (t.noteRead t.cpu.pc).memRead a := State.memRead_withCpu _ _ a
      _ = t.memRead a := State.memRead_noteRead t hpc
      _ = s.memRead a := h.read a fun j hj => ha j (Nat.lt_succ_of_lt hj)

/-- The next byte is the one at its address before the fetch began. -/
theorem fetch8_fst (h : Fetched s k t) (hk : k < 65536) : t.fetch8.1 = s.memRead (s.cpu.pc + BitVec.ofNat 16 k) := by
  rw [State.fetch8_fst, h.pc]
  refine h.read _ fun j hj e => ?_
  have := congrArg BitVec.toNat (add_left_cancel e)
  simp only [BitVec.toNat_ofNat] at this
  omega

end Fetched

/-- The fetch gives what the bytes from PC on decode to, and leaves PC past as many as LEN of the first (R162). -/
theorem State.fetchInstr_spec (s : State) :
    s.fetchInstr.1 =
      decodeBytes (s.memRead s.cpu.pc) (s.memRead (s.cpu.pc + 1)) (s.memRead (s.cpu.pc + 2)) ∧
    Fetched s (instrLength (s.memRead s.cpu.pc)) s.fetchInstr.2 := by
  have f1 := (Fetched.refl s).fetch8
  have f2 := f1.fetch8
  have b1 : s.fetch8.2.fetch8.1 = s.memRead (s.cpu.pc + 1) := f1.fetch8_fst (by decide)
  have b2 : s.fetch8.2.fetch8.2.fetch8.1 = s.memRead (s.cpu.pc + 2) := f2.fetch8_fst (by decide)
  unfold State.fetchInstr
  dsimp only
  rw [State.fetch8_fst, b1, b2]
  rcases instrLength_cases (s.memRead s.cpu.pc) with hl | hl | hl <;> rw [hl]
  · exact ⟨decodeBytes_congr _ _ _ _ _ (absurd hl) (by simp [hl]), f1⟩
  · exact ⟨decodeBytes_congr _ _ _ _ _ (fun _ => rfl) (by simp [hl]), f2⟩
  · exact ⟨rfl, f2.fetch8⟩

end Sys2Proof.Machine

namespace Sys2Proof.Proofs
open Sys2Proof.Machine

/-- Settles O4: the fetch moves PC past LEN bytes, and decoded bytes have words of LEN bytes. -/
theorem fetchAdvancesPcByLength : Obligations.FetchAdvancesPcByLength := by
  intro s
  obtain ⟨hi, hf⟩ := s.fetchInstr_spec
  obtain ⟨d, hd⟩ := hf.past
  refine ⟨by rw [hd]; rfl, ?_, hf.draws⟩
  rw [hi, length_encode_decodeBytes]

/-- Settles O5: the fetch of a step gives what the bytes at PC decode to. -/
theorem stepRunsDecodedInstruction : Obligations.StepRunsDecodedInstruction := by
  intro s s1 i rest hhost hbudget hrun hdec b
  obtain ⟨hi, -⟩ := b.fetchInstr_spec
  obtain ⟨hpc, hlen, -⟩ := fetchAdvancesPcByLength b
  obtain rfl : i = b.fetchInstr.1 := by
    rw [hi]
    exact (congrArg Prod.fst (Except.ok.inj hdec)).symm
  refine ⟨hi ▸ decodeBytes_wellFormed _ _ _, ?_, by rw [hlen]; exact hpc⟩
  calc step s = frameTurn s1 := by rw [step, hhost]
    _ = machineStep s1.driverTurn := if_pos hbudget
    _ = onNext (exec b.fetchInstr.1 b.fetchInstr.2) State.endStep := by
      rw [machineStep, cpuStep, hrun]
      rfl

/-- Settles O1: each first byte is looked up in the opcode maps. -/
theorem sampleWordsDecode : Obligations.SampleWordsDecode :=
  ⟨rfl, rfl, rfl, rfl, rfl, rfl, rfl, rfl, rfl, rfl⟩

end Sys2Proof.Proofs
end

section
/-! SUPPORT. The unassigned opcodes and the byte 0xCB, and what every instruction costs. -/

namespace Sys2Proof.Machine
open Sys2Proof.Forms

/-! ### The unassigned opcodes and 0xCB -/

theorem wellFormed_illegal (op : Byte) : (Instr.illegal op).wellFormed = true ↔ op ∈ unassigned := List.contains_iff_mem

/-- An unassigned opcode is one byte and decodes to itself (R173). -/
theorem decodeBytes_of_unassigned {op : Byte} (h : op ∈ unassigned) (b1 b2 : Byte) :
    decodeBytes op b1 b2 = .illegal op := by
  have hd : decodeBytes op 0 0 = .illegal op := decodeBytes_encode ((wellFormed_illegal op).mpr h)
  have hl : instrLength op = 1 := by rw [← length_encode_decodeBytes op 0 0, hd]; rfl
  rw [← hd]
  exact decodeBytes_congr op b1 b2 0 0 (absurd hl) (by simp [hl])

/-- Only the unassigned opcodes decode to `illegal`: it is well formed for no other byte (R173). -/
theorem unassigned_of_decodeBytes {op b1 b2 p : Byte} (h : decodeBytes op b1 b2 = .illegal p) : op ∈ unassigned := by
  have hp : p ∈ unassigned := (wellFormed_illegal p).mp (h ▸ decodeBytes_wellFormed op b1 b2)
  have he : [p] = [op, b1, b2].take (instrLength op) := by rw [← encode_decodeBytes, h]; rfl
  obtain rfl : p = op := by
    rcases instrLength_cases op with hl | hl | hl <;> simp [hl] at he
    exact he
  exact hp

/-- The CB instruction that a byte names runs as PREFIX CB with that byte does (R356). -/
theorem exec_decodeCb (cbop : Byte) : exec (decodeCb cbop) = (Meaning.cb cbop).run := by
  obtain ⟨-, hi, he⟩ := decodeCb_words cbop
  rw [exec_eq_run, meaningOf_of_byte hi he]
  rfl

theorem exec_prefixCB (cbop : Byte) : exec (.prefixCB cbop) = (Meaning.cb cbop).run := (Meaning.cb_run cbop).symm

/-! ### Costs -/

/-- `m` answers a next state from every state, `n` cycles later. -/
def Meaning.Costs (m : Meaning) (n : State → Nat) : Prop :=
  ∀ s, ∃ t, m.run s = .next t ∧ t.stepCycles = s.stepCycles + n s

theorem done_costs {s u : State} {n : Nat} (h : u.stepCycles = s.stepCycles) :
    ∃ t, u.done n = .next t ∧ t.stepCycles = s.stepCycles + n := ⟨u.addCycles n, rfl, congrArg (· + n) h⟩

theorem holds_eq_cond (s : State) (cc : Cond) : holds s cc = s.cond cc := by cases cc <;> rfl

theorem cond_costs {s u v : State} {cc : Cond} {n k : Nat} (hu : u.stepCycles = s.stepCycles)
    (hv : v.stepCycles = s.stepCycles) : ∃ t, (if s.cond cc then u.done n else v.done k) = .next t ∧
      t.stepCycles = s.stepCycles + if holds s cc then n else k := by
  rw [holds_eq_cond]
  split
  · exact done_costs hu
  · exact done_costs hv

@[simp] theorem State.push16_stepCycles (s : State) (v : Word) : (s.push16 v).stepCycles = s.stepCycles := by
  simp [State.push16]

@[simp] theorem State.pop16_stepCycles (s : State) : s.pop16.2.stepCycles = s.stepCycles := by
  simp [State.pop16]

@[simp] theorem State.callTo_stepCycles (s : State) (target : Word) : (s.callTo target).stepCycles = s.stepCycles := by
  simp [State.callTo]

@[simp] theorem State.returnPc_stepCycles (s : State) : s.returnPc.stepCycles = s.stepCycles := by
  simp [State.returnPc]

@[simp] theorem State.alu_stepCycles (s : State) (op : AluOp) (v : Byte) : (s.alu op v).stepCycles = s.stepCycles := by
  cases op <;> simp [State.alu, State.logicA]

/-! ### The cost of each shared operation -/

namespace Meaning

theorem ldRegReg_costs (r q : Reg8) : (ldRegReg r q).Costs fun _ => 4 := fun _ => done_costs (by simp)

theorem ldRegImm_costs (r : Reg8) (d8 : Byte) : (ldRegImm r d8).Costs fun _ => 8 := fun _ => done_costs (by simp)

theorem ldRegHL_costs (r : Reg8) : (ldRegHL r).Costs fun _ => 8 := fun _ => done_costs (by simp)

theorem ldHLReg_costs (r : Reg8) : (ldHLReg r).Costs fun _ => 8 := fun _ => done_costs (by simp)

theorem ldHLImm_costs (d8 : Byte) : (ldHLImm d8).Costs fun _ => 12 := fun _ => done_costs (by simp)

theorem ldA_costs (a : State → Word) (n : Nat) : (ldA a n).Costs fun _ => n := fun _ => done_costs (by simp)

theorem stA_costs (a : State → Word) (n : Nat) : (stA a n).Costs fun _ => n := fun _ => done_costs (by simp)

theorem ldAMoveHL_costs (step : Word) : (ldAMoveHL step).Costs fun _ => 8 := fun _ => done_costs (by simp)

theorem stAMoveHL_costs (step : Word) : (stAMoveHL step).Costs fun _ => 8 := fun _ => done_costs (by simp)

theorem ldPairImm_costs (p : Pair) (d16 : Word) : (ldPairImm p d16).Costs fun _ => 12 := fun _ => done_costs (by simp)

theorem pushPair_costs (p : Pair) : (pushPair p).Costs fun _ => 16 := fun _ => done_costs (by simp)

theorem popPair_costs (p : Pair) : (popPair p).Costs fun _ => 12 := fun _ => done_costs (by simp)

theorem ldIndA16SP_costs (a16 : Word) : (ldIndA16SP a16).Costs fun _ => 20 := fun _ => done_costs (by simp)

theorem ldHLSPDisp_costs (e : Byte) : (ldHLSPDisp e).Costs fun _ => 12 := fun _ => done_costs (by simp)

theorem ldSPHL_costs : ldSPHL.Costs fun _ => 8 := fun _ => done_costs (by simp)

theorem aluReg_costs (op : AluOp) (r : Reg8) : (aluReg op r).Costs fun _ => 4 := fun _ => done_costs (by simp)

theorem aluHL_costs (op : AluOp) : (aluHL op).Costs fun _ => 8 := fun _ => done_costs (by simp)

theorem aluImm_costs (op : AluOp) (d8 : Byte) : (aluImm op d8).Costs fun _ => 8 := fun _ => done_costs (by simp)

theorem incReg_costs (r : Reg8) : (incReg r).Costs fun _ => 4 := fun _ => done_costs (by simp [State.incFlags])

theorem decReg_costs (r : Reg8) : (decReg r).Costs fun _ => 4 := fun _ => done_costs (by simp [State.decFlags])

theorem incIndHL_costs : incIndHL.Costs fun _ => 12 := fun _ => done_costs (by simp [State.incFlags])

theorem decIndHL_costs : decIndHL.Costs fun _ => 12 := fun _ => done_costs (by simp [State.decFlags])

theorem daa_costs : daa.Costs fun _ => 4 := fun _ => done_costs (by simp)

theorem cpl_costs : cpl.Costs fun _ => 4 := fun _ => done_costs (by simp)

theorem scf_costs : scf.Costs fun _ => 4 := fun _ => done_costs (by simp)

theorem ccf_costs : ccf.Costs fun _ => 4 := fun _ => done_costs (by simp)

theorem addHLPair_costs (p : Pair) : (addHLPair p).Costs fun _ => 8 := fun _ => done_costs (by simp [State.addHlFlags])

theorem incPair_costs (p : Pair) : (incPair p).Costs fun _ => 8 := fun _ => done_costs (by simp)

theorem decPair_costs (p : Pair) : (decPair p).Costs fun _ => 8 := fun _ => done_costs (by simp)

theorem addSPDisp_costs (e : Byte) : (addSPDisp e).Costs fun _ => 16 := fun _ => done_costs (by simp)

theorem rotateA_costs (op : RotOp) : (rotateA op).Costs fun _ => 4 := fun _ => done_costs (by simp)

theorem rotateReg_costs (op : RotOp) (r : Reg8) : (rotateReg op r).Costs fun _ => 8 :=
  fun _ => done_costs (by simp [State.rotateFlags])

theorem rotateHL_costs (op : RotOp) : (rotateHL op).Costs fun _ => 16 :=
  fun _ => done_costs (by simp [State.rotateFlags])

theorem bitReg_costs (b : Nat) (r : Reg8) : (bitReg b r).Costs fun _ => 8 :=
  fun _ => done_costs (by simp [State.bitFlags])

theorem bitHL_costs (b : Nat) : (bitHL b).Costs fun _ => 12 := fun _ => done_costs (by simp [State.bitFlags])

theorem resReg_costs (b : Nat) (r : Reg8) : (resReg b r).Costs fun _ => 8 := fun _ => done_costs (by simp)

theorem resHL_costs (b : Nat) : (resHL b).Costs fun _ => 16 := fun _ => done_costs (by simp)

theorem setReg8Bit_costs (b : Nat) (r : Reg8) : (setReg8Bit b r).Costs fun _ => 8 := fun _ => done_costs (by simp)

theorem setHLBit_costs (b : Nat) : (setHLBit b).Costs fun _ => 16 := fun _ => done_costs (by simp)

theorem jump_costs (a : State → Word) (n : Nat) : (jump a n).Costs fun _ => n := fun _ => done_costs (by simp)

theorem call_costs (target : Word) (n : Nat) : (call target n).Costs fun _ => n := fun _ => done_costs (by simp)

theorem ret_costs : ret.Costs fun _ => 16 := fun _ => done_costs (by simp)

theorem reti_costs : reti.Costs fun _ => 16 := fun _ => done_costs (by simp [State.returnFromInterrupt])

theorem nop_costs : nop.Costs fun _ => 4 := fun _ => done_costs (by simp)

theorem halt_costs : halt.Costs fun _ => 4 := fun _ => done_costs (by simp)

theorem di_costs : di.Costs fun _ => 4 := fun _ => done_costs (by simp)

theorem jpCond_costs (cc : Cond) (a16 : Word) : (jpCond cc a16).Costs fun s => if holds s cc then 16 else 12 :=
  fun _ => cond_costs (by simp) rfl

theorem jrCond_costs (cc : Cond) (e : Byte) : (jrCond cc e).Costs fun s => if holds s cc then 12 else 8 :=
  fun _ => cond_costs (by simp) rfl

theorem callCond_costs (cc : Cond) (a16 : Word) : (callCond cc a16).Costs fun s => if holds s cc then 24 else 12 :=
  fun _ => cond_costs (by simp) rfl

theorem retCond_costs (cc : Cond) : (retCond cc).Costs fun s => if holds s cc then 20 else 8 :=
  fun _ => cond_costs (by simp) rfl

theorem stop_costs (d8 : Byte) : (stop d8).Costs fun _ => 4 := by
  intro s
  show ∃ t, execStop d8 s = _ ∧ _
  unfold execStop
  split
  · exact done_costs rfl
  · exact done_costs rfl

theorem ei_costs : ei.Costs fun _ => 4 := by
  intro s
  show ∃ t, execEi s = _ ∧ _
  unfold execEi
  split
  · exact done_costs rfl
  · exact done_costs rfl

theorem illegal_costs : illegal.Costs fun _ => 4 := by
  intro s
  show ∃ t, execIllegal 0 s = _ ∧ _
  unfold execIllegal
  split
  · exact done_costs rfl
  · exact done_costs rfl

/-! ### The cycle tables -/

/-- A meaning costs what the tables R170 say of the opcode with fields `x`, `y` and `z`. -/
def CostsOpcode (m : Meaning) (x y z : Nat) : Prop :=
  m.Costs fun s => cost s (.illegal (BitVec.ofNat 8 (64 * x + 8 * y + z)))

theorem relative_costs (d8 : Byte) (d16 : Word) {y : Nat} (hy : y < 8) : (relative d8 d16 y).CostsOpcode 0 y 0 := by
  interval_cases y
  · exact nop_costs
  · exact ldIndA16SP_costs d16
  · exact stop_costs d8
  · exact jump_costs _ 12
  all_goals exact jrCond_costs _ d8

theorem indirect_costs {y : Nat} (hy : y < 8) : (indirect y).CostsOpcode 0 y 2 := by
  interval_cases y
  · exact stA_costs _ 8
  · exact ldA_costs _ 8
  · exact stA_costs _ 8
  · exact ldA_costs _ 8
  · exact stAMoveHL_costs _
  · exact ldAMoveHL_costs _
  · exact stAMoveHL_costs _
  · exact ldAMoveHL_costs _

theorem accumulator_costs {y : Nat} (hy : y < 8) : (accumulator y).CostsOpcode 0 y 7 := by
  interval_cases y
  iterate 4 exact rotateA_costs _
  · exact daa_costs
  · exact cpl_costs
  · exact scf_costs
  · exact ccf_costs

/-- A field value other than 6, the byte at HL, names a register (R163). -/
theorem regField_cases {n : Nat} (hn : n < 8) (h6 : n ≠ 6) :
    n = 0 ∨ n = 1 ∨ n = 2 ∨ n = 3 ∨ n = 4 ∨ n = 5 ∨ n = 7 := by omega

theorem row0_costs (d8 : Byte) (d16 : Word) {y z : Nat} (hy : y < 8) (hz : z < 8) :
    (row0 y z d8 d16).CostsOpcode 0 y z := by
  interval_cases z
  · exact relative_costs d8 d16 hy
  · rcases Nat.even_or_odd' y with ⟨p, rfl | rfl⟩
    · have : p < 4 := by omega
      interval_cases p <;> exact ldPairImm_costs _ d16
    · have : p < 4 := by omega
      interval_cases p <;> exact addHLPair_costs _
  · exact indirect_costs hy
  · rcases Nat.even_or_odd' y with ⟨p, rfl | rfl⟩
    · have : p < 4 := by omega
      interval_cases p <;> exact incPair_costs _
    · have : p < 4 := by omega
      interval_cases p <;> exact decPair_costs _
  · by_cases y6 : y = 6
    · rw [y6]
      exact incIndHL_costs
    · rcases regField_cases hy y6 with rfl | rfl | rfl | rfl | rfl | rfl | rfl <;> exact incReg_costs _
  · by_cases y6 : y = 6
    · rw [y6]
      exact decIndHL_costs
    · rcases regField_cases hy y6 with rfl | rfl | rfl | rfl | rfl | rfl | rfl <;> exact decReg_costs _
  · by_cases y6 : y = 6
    · rw [y6]
      exact ldHLImm_costs d8
    · rcases regField_cases hy y6 with rfl | rfl | rfl | rfl | rfl | rfl | rfl <;> exact ldRegImm_costs _ d8
  · exact accumulator_costs hy

theorem row1_costs {y z : Nat} (hy : y < 8) (hz : z < 8) : (row1 y z).CostsOpcode 1 y z := by
  by_cases y6 : y = 6 <;> by_cases z6 : z = 6
  · rw [y6, z6]
    exact halt_costs
  · rw [row1, if_neg (fun h => z6 h.2), if_neg z6, if_pos y6, y6]
    rcases regField_cases hz z6 with rfl | rfl | rfl | rfl | rfl | rfl | rfl <;> exact ldHLReg_costs _
  · rw [row1, if_neg (fun h => y6 h.1), if_pos z6, z6]
    rcases regField_cases hy y6 with rfl | rfl | rfl | rfl | rfl | rfl | rfl <;> exact ldRegHL_costs _
  · rw [row1, if_neg (fun h => y6 h.1), if_neg z6, if_neg y6]
    rcases regField_cases hy y6 with rfl | rfl | rfl | rfl | rfl | rfl | rfl
    all_goals rcases regField_cases hz z6 with rfl | rfl | rfl | rfl | rfl | rfl | rfl <;> exact ldRegReg_costs _ _

theorem row2_costs {y z : Nat} (hy : y < 8) (hz : z < 8) : (row2 y z).CostsOpcode 2 y z := by
  by_cases z6 : z = 6
  · rw [z6]
    interval_cases y <;> exact aluHL_costs _
  · rcases regField_cases hz z6 with rfl | rfl | rfl | rfl | rfl | rfl | rfl
    all_goals interval_cases y <;> exact aluReg_costs _ _

theorem highPageRow_costs (d8 : Byte) {y : Nat} (hy : y < 8) : (highPageRow d8 y).CostsOpcode 3 y 0 := by
  interval_cases y
  iterate 4 exact retCond_costs _
  · exact stA_costs _ 12
  · exact addSPDisp_costs d8
  · exact ldA_costs _ 12
  · exact ldHLSPDisp_costs d8

theorem popRow_costs {y : Nat} (hy : y < 8) : (popRow y).CostsOpcode 3 y 1 := by
  interval_cases y
  · exact popPair_costs .bc
  · exact ret_costs
  · exact popPair_costs .de
  · exact reti_costs
  · exact popPair_costs .hl
  · exact jump_costs _ 4
  · exact popPair_costs .af
  · exact ldSPHL_costs

theorem jumpRow_costs (d16 : Word) {y : Nat} (hy : y < 8) : (jumpRow d16 y).CostsOpcode 3 y 2 := by
  interval_cases y
  iterate 4 exact jpCond_costs _ d16
  · exact stA_costs _ 8
  · exact stA_costs _ 16
  · exact ldA_costs _ 8
  · exact ldA_costs _ 16

/-- The opcode 0xCB, at y = 1 and z = 3, has the tables R172 of its second byte. -/
theorem row3_costs (d8 : Byte) (d16 : Word) {y z : Nat} (hy : y < 8) (hz : z < 8) (hcb : ¬(y = 1 ∧ z = 3)) :
    (row3 y z d8 d16).CostsOpcode 3 y z := by
  interval_cases z
  · exact highPageRow_costs d8 hy
  · exact popRow_costs hy
  · exact jumpRow_costs d16 hy
  · interval_cases y
    · exact jump_costs _ 16
    · exact absurd ⟨rfl, rfl⟩ hcb
    iterate 4 exact illegal_costs
    · exact di_costs
    · exact ei_costs
  · by_cases y4 : y < 4
    · interval_cases y <;> exact callCond_costs _ d16
    · rw [not_lt] at y4
      interval_cases y <;> exact illegal_costs
  · rcases Nat.even_or_odd' y with ⟨p, rfl | rfl⟩
    · have : p < 4 := by omega
      interval_cases p <;> exact pushPair_costs _
    · have : p < 4 := by omega
      interval_cases p
      · exact call_costs d16 24
      all_goals exact illegal_costs
  · interval_cases y <;> exact aluImm_costs _ d8
  · interval_cases y <;> exact call_costs _ 16

/-- An opcode's meaning costs what the tables R170 say, whatever its operand. -/
theorem ofOpcode_costs {op : Byte} (hcb : op ≠ 0xCB#8) (d8 : Byte) (d16 : Word) :
    (ofOpcode op d8 d16).Costs fun s => cost s (.illegal op) := by
  have hop : BitVec.ofNat 8 (64 * (op.toNat / 64) + 8 * (op.toNat / 8 % 8) + op.toNat % 8) = op := by bv_omega
  have hx : op.toNat / 64 < 4 := by have := op.isLt; omega
  have hy : op.toNat / 8 % 8 < 8 := Nat.mod_lt _ (by decide)
  have hz : op.toNat % 8 < 8 := Nat.mod_lt _ (by decide)
  suffices h : (ofOpcode op d8 d16).CostsOpcode (op.toNat / 64) (op.toNat / 8 % 8) (op.toNat % 8) by
    rwa [CostsOpcode, hop] at h
  unfold ofOpcode
  dsimp only
  generalize op.toNat / 64 = x, op.toNat / 8 % 8 = y, op.toNat % 8 = z at hop hx hy hz
  interval_cases x
  · exact row0_costs d8 d16 hy hz
  · exact row1_costs hy hz
  · exact row2_costs hy hz
  · refine row3_costs d8 d16 hy hz ?_
    rintro ⟨rfl, rfl⟩
    exact hcb hop.symm

/-- A CB instruction costs what the tables R172 say of its byte. -/
theorem cb_costs (cbop : Byte) : (cb cbop).Costs fun s => cost s (.prefixCB cbop) := by
  have hx : cbop.toNat / 64 < 4 := by have := cbop.isLt; omega
  show (cb cbop).Costs fun _ => if cbop.toNat % 8 ≠ 6 then 8 else if cbop.toNat / 64 = 1 then 12 else 16
  unfold cb
  dsimp only
  generalize cbop.toNat / 64 = x at hx
  by_cases hz : cbop.toNat % 8 = 6
  · rw [if_pos hz, if_neg (not_not_intro hz)]
    interval_cases x
    · exact rotateHL_costs _
    · exact bitHL_costs _
    · exact resHL_costs _
    · exact setHLBit_costs _
  · rw [if_neg hz, if_pos hz]
    interval_cases x
    · exact rotateReg_costs _ _
    · exact bitReg_costs _ _
    · exact resReg_costs _ _
    · exact setReg8Bit_costs _ _

end Meaning

/-- The tables read the first byte of an instruction, and the second after 0xCB. -/
theorem cost_of_head {i : Instr} (hcb : (encode i).headD 0 ≠ 0xCB#8) (s : State) :
    cost s i = cost s (.illegal ((encode i).headD 0)) := by
  unfold cost
  dsimp only
  rw [if_neg hcb]
  exact (if_neg hcb).symm

theorem cost_of_cb {i : Instr} (hcb : (encode i).headD 0 = 0xCB#8) (s : State) :
    cost s i = cost s (.prefixCB ((encode i).getD 1 0)) := by
  unfold cost
  dsimp only
  rw [if_pos hcb]
  rfl

theorem cost_illegal {op : Byte} (h : op ∈ unassigned) (s : State) : cost s (.illegal op) = 4 := by
  revert op
  simp only [unassigned, List.forall_mem_cons]
  exact ⟨rfl, rfl, rfl, rfl, rfl, rfl, rfl, rfl, rfl, rfl, rfl, nofun⟩

/-- An instruction's meaning costs what the tables say of its words. -/
theorem meaningOf_costs {i : Instr} (h : i.wellFormed = true ∨ ∃ cbop, i = .prefixCB cbop) :
    (meaningOf i).Costs fun s => cost s i := by
  by_cases hi : isIllegal i = true
  · obtain ⟨op, rfl⟩ : ∃ op, i = .illegal op := by
      unfold isIllegal at hi
      split at hi
      · exact ⟨_, rfl⟩
      · cases hi
    have hop : op ∈ unassigned := (wellFormed_illegal op).mp (h.resolve_right nofun)
    exact (funext (cost_illegal hop)) ▸ Meaning.illegal_costs
  · rw [meaningOf, if_neg hi]
    by_cases hcb : (encode i).headD 0 = 0xCB#8
    · rw [funext (cost_of_cb hcb), hcb]
      exact Meaning.cb_costs _
    · rw [funext (cost_of_head hcb)]
      exact Meaning.ofOpcode_costs hcb _ _

end Sys2Proof.Machine

namespace Sys2Proof.Proofs
open Sys2Proof.Machine Sys2Proof.Forms

/-- Settles O8: exec runs the meaning that the words name, which costs what the tables say of them. -/
theorem everyInstructionCompletesAtItsCost : Obligations.EveryInstructionCompletesAtItsCost := by
  intro i s h
  rw [exec_eq_run]
  exact meaningOf_costs h s

/-- Settles O44: `illegal` is well formed for the unassigned opcodes alone, and 0xCB has the meaning of its second
byte. -/
theorem unassignedAndPrefixResults : Obligations.UnassignedAndPrefixResults := by
  refine ⟨fun op b1 b2 s => ⟨⟨?_, ?_⟩, fun h => ⟨decodeBytes_of_unassigned h b1 b2, rfl⟩, ?_⟩, fun cbop b2 s => ?_⟩
  · rintro ⟨p, h⟩
    exact unassigned_of_decodeBytes h
  · exact fun h => ⟨op, decodeBytes_of_unassigned h b1 b2⟩
  · show execIllegal op s = _
    unfold execIllegal
    cases s.params.illegalOpcode <;> rfl
  · obtain ⟨t, ht, -⟩ := Meaning.cb_costs cbop s
    obtain ⟨-, -, he⟩ := decodeCb_words cbop
    rw [exec_prefixCB, exec_decodeCb]
    exact ⟨rfl, he, t, ht, ht⟩

end Sys2Proof.Proofs
end

section
/-! SUPPORT. The next state of the loads: an update of memory or of the count of draws, then one of the CPU registers. -/

namespace Sys2Proof.Machine
open Sys2Proof.Forms

/-! ### The end of an instruction as `after` -/

/-- The end of an instruction that left the CPU registers of `s` alone. -/
theorem done_eq_after {s t : State} (h : t.cpu = s.cpu) (n : Nat) : t.done n = .next (after t s.cpu n) := by
  rw [← h]
  rfl

/-- The end of an instruction that last wrote a register, having left the others of `s` alone. -/
theorem setReg_done {s t : State} (h : t.cpu = s.cpu) (r : Reg8) (v : Byte) (n : Nat) :
    (t.setReg r v).done n = .next (after t (s.setReg r v).cpu n) := by
  cases r <;> simp only [State.setReg, ← h] <;> rfl

/-- The end of an instruction that last wrote a pair, having left the other registers of `s` alone. -/
theorem setPair_done {s t : State} (h : t.cpu = s.cpu) (p : Pair) (v : Word) (n : Nat) :
    (t.setPair p v).done n = .next (after t (s.setPair p v).cpu n) := by
  cases p <;> simp only [State.setPair, ← h] <;> rfl

/-- `0xFF00 + o` does not wrap (R211 to R214). -/
theorem highPage_eq_ofNat (o : Byte) : highPage o = BitVec.ofNat 16 (0xFF00 + o.toNat) := by
  unfold highPage
  bv_omega

/-! ### The loads of registers and pairs -/

theorem encode_ldRegInstr (r q : Reg8) : encode (ldRegInstr r q) = [byte (0x40 + 8 * regField r + regField q)] := by
  cases r <;> cases q <;> rfl

theorem exec_ldRegInstr (r q : Reg8) : exec (ldRegInstr r q) = ldRegReg r q := by
  cases r <;> cases q <;> rfl

theorem encode_ldImmInstr (r : Reg8) (d8 : Byte) : encode (ldImmInstr d8 r) = [byte (0x06 + 8 * regField r), d8] := by
  cases r <;> rfl

theorem exec_ldImmInstr (r : Reg8) (d8 : Byte) : exec (ldImmInstr d8 r) = ldRegImm r d8 := by
  cases r <;> rfl

theorem encode_ldPairForms {x : Pair × Byte × (Word → Instr)} (hx : x ∈ ldPairForms) (d16 : Word) :
    encode (x.2.2 d16) = [x.2.1, loByte d16, hiByte d16] := by
  revert x
  simp only [ldPairForms, List.forall_mem_cons]
  exact ⟨rfl, rfl, rfl, rfl, nofun⟩

theorem exec_ldPairForms {x : Pair × Byte × (Word → Instr)} (hx : x ∈ ldPairForms) (d16 : Word) :
    exec (x.2.2 d16) = ldPairImm x.1 d16 := by
  revert x
  simp only [ldPairForms, List.forall_mem_cons]
  exact ⟨rfl, rfl, rfl, rfl, nofun⟩

/-! ### The loads from memory -/

theorem encode_loadForm (x : LoadForm) : encode x.instr = x.bytes := by
  cases x
  case hl r => cases r <;> rfl
  all_goals rfl

/-- Each form reads its address once, then writes the byte to its destination. -/
theorem exec_loadForm (x : LoadForm) (s : State) :
    exec x.instr s = ((s.noteRead (x.addr s)).setReg x.dest (s.memRead (x.addr s))).done x.cycles := by
  cases x
  case hl r => cases r <;> rfl
  case high | highC =>
    rw [LoadForm.addr, ← highPage_eq_ofNat]
    rfl
  all_goals rfl

/-- A load of A from (HL) reads with the old HL, then moves it (R216, R218). -/
theorem ldAMoveHL_eq_after (step : Word) (s : State) : ldAMoveHL step s = .next (after (s.noteRead s.hl)
    { s.cpu with a := s.memRead s.hl, h := hiByte (s.hl + step), l := loByte (s.hl + step) } 8) := by
  have hl : ((s.noteRead s.hl).setReg .a (s.memRead s.hl)).hl = s.hl := s.hl_noteRead s.hl
  simp only [ldAMoveHL, State.readByte_fst, State.readByte_snd, hl]
  simp only [State.setReg, State.setPair, State.noteRead_cpu]
  rfl

/-! ### The stores to memory -/

theorem encode_storeForm (x : StoreForm) : encode x.instr = x.bytes := by
  cases x
  case hl r => cases r <;> rfl
  all_goals rfl

/-- Each form does one write of its value to its address. -/
theorem exec_storeForm (x : StoreForm) (s : State) :
    exec x.instr s = (s.memWrite (x.addr s) (x.value s)).done x.cycles := by
  cases x
  case hl r => cases r <;> rfl
  case high | highC =>
    rw [StoreForm.addr, ← highPage_eq_ofNat]
    rfl
  all_goals rfl

/-- A store of A to (HL) writes with the old HL, then moves it (R215, R217). -/
theorem stAMoveHL_eq_after (step : Word) (s : State) : stAMoveHL step s = .next (after (s.memWrite s.hl s.cpu.a)
    { s.cpu with h := hiByte (s.hl + step), l := loByte (s.hl + step) } 8) := by
  simp only [stAMoveHL, State.hl_memWrite]
  exact setPair_done (s.memWrite_cpu s.hl s.cpu.a) .hl (s.hl + step) 8

end Sys2Proof.Machine

namespace Sys2Proof.Proofs
open Sys2Proof.Machine Sys2Proof.Forms

/-- Settles O23: each form runs the load of its register or pair, which ends with that one write. -/
theorem registerLoadResults : Obligations.RegisterLoadResults := by
  refine ⟨fun r q s => ⟨encode_ldRegInstr r q, ?_⟩, fun r d8 s => ⟨encode_ldImmInstr r d8, ?_⟩,
    fun x hx d16 s => ⟨encode_ldPairForms hx d16, ?_⟩, fun s => ⟨rfl, rfl⟩⟩
  · rw [exec_ldRegInstr]
    exact setReg_done rfl r (s.getReg q) 4
  · rw [exec_ldImmInstr]
    exact setReg_done rfl r d8 8
  · rw [exec_ldPairForms hx]
    exact setPair_done rfl x.1 d16 12

/-- Settles O24: each form is one read and one write of its destination; HL moves after the read. -/
theorem memoryLoadResults : Obligations.MemoryLoadResults := by
  refine ⟨fun x s => ⟨encode_loadForm x, ?_⟩, fun s => ⟨rfl, ldAMoveHL_eq_after 1 s, rfl, ?_⟩⟩
  · rw [exec_loadForm]
    exact setReg_done (s.noteRead_cpu (x.addr s)) x.dest _ x.cycles
  · rw [sub_eq_add_neg]
    exact ldAMoveHL_eq_after (-1) s

/-- Settles O25: each form is one write of memory, which leaves the CPU registers; HL moves after it. -/
theorem memoryStoreResults : Obligations.MemoryStoreResults := by
  refine ⟨fun x s => ⟨encode_storeForm x, ?_⟩, fun s => ⟨rfl, stAMoveHL_eq_after 1 s, rfl, ?_⟩⟩
  · rw [exec_storeForm]
    exact done_eq_after (s.memWrite_cpu (x.addr s) (x.value s)) x.cycles
  · rw [sub_eq_add_neg]
    exact stAMoveHL_eq_after (-1) s

end Sys2Proof.Proofs
end

section
/-! SUPPORT. The next state of the stack transfers and of the sums of SP and a signed byte: what a push, a pop and
`spPlusE` leave, said once. -/

namespace Sys2Proof.Machine
open Sys2Proof.Forms

/-! ### The stack -/

/-- A push is two writes of memory, the high byte first, and one write of SP (R12). -/
theorem State.push16_eq_withCpu (s : State) (v : Word) : s.push16 v =
    { (s.memWrite (s.cpu.sp - 1) (hiByte v)).memWrite (s.cpu.sp - 2) (loByte v) with
      cpu := { s.cpu with sp := s.cpu.sp - 2 } } := by
  simp only [State.push16_eq, State.setSp, State.memWrite_withCpu]

/-- The reads of a pop are of two addresses, so the first leaves what the second reads. -/
theorem State.pop16_fst_eq_cat (s : State) :
    s.pop16.1 = cat (s.memRead (s.cpu.sp + 1)) (s.memRead s.cpu.sp) := by
  have hne : s.cpu.sp + 1 ≠ s.cpu.sp := by bv_omega
  rw [State.pop16_fst, State.memRead_noteRead s hne]

/-- The end of an instruction that last wrote SP and a pair other than SP, having left the other registers of `s`
alone. -/
theorem setSp_setPair_done {s t : State} (h : t.cpu = s.cpu) {p : Pair} (hp : p ≠ .sp) (v w : Word) (n : Nat) :
    ((t.setSp w).setPair p v).done n = .next (after t { (s.setPair p v).cpu with sp := w } n) := by
  cases p
  case sp => exact absurd rfl hp
  all_goals simp only [State.setPair, ← h]; rfl

theorem pushPair_eq_after (p : Pair) (s : State) : pushPair p s = .next (after
    ((s.memWrite (s.cpu.sp - 1) (hiByte (s.getPair p))).memWrite (s.cpu.sp - 2) (loByte (s.getPair p)))
    { s.cpu with sp := s.cpu.sp - 2 } 16) := by
  rw [pushPair, State.push16_eq_withCpu]
  rfl

/-- A POP writes the pair after SP; no pair that it may write is SP itself. -/
theorem popPair_eq_after {p : Pair} (hp : p ≠ .sp) (s : State) : popPair p s = .next (after
    ((s.noteRead s.cpu.sp).noteRead (s.cpu.sp + 1))
    { (s.setPair p (cat (s.memRead (s.cpu.sp + 1)) (s.memRead s.cpu.sp))).cpu with sp := s.cpu.sp + 2 } 12) := by
  have hcpu : ((s.noteRead s.cpu.sp).noteRead (s.cpu.sp + 1)).cpu = s.cpu := by simp
  rw [popPair, State.pop16_snd, State.pop16_fst_eq_cat]
  exact setSp_setPair_done hcpu hp _ _ 12

theorem pushForms_spec : ∀ x ∈ pushForms, encode x.2.2 = [x.2.1] ∧ exec x.2.2 = pushPair x.1 := by
  simp only [pushForms, List.forall_mem_cons]
  exact ⟨⟨rfl, rfl⟩, ⟨rfl, rfl⟩, ⟨rfl, rfl⟩, ⟨rfl, rfl⟩, nofun⟩

theorem popForms_spec : ∀ x ∈ popForms, encode x.2.2 = [x.2.1] ∧ exec x.2.2 = popPair x.1 := by
  simp only [popForms, List.forall_mem_cons]
  exact ⟨⟨rfl, rfl⟩, ⟨rfl, rfl⟩, ⟨rfl, rfl⟩, ⟨rfl, rfl⟩, nofun⟩

theorem popForms_ne_sp : ∀ x ∈ popForms, x.1 ≠ .sp := by decide

/-! ### The signed displacement -/

/-- The sign extension of a byte, as the integer from -128 to 127 that the byte stands for. -/
theorem sext16_eq_ofInt (e : Byte) :
    sext16 e = BitVec.ofInt 16 (if e.toNat < 128 then (e.toNat : Int) else (e.toNat : Int) - 256) := by
  have he : e.toInt = if e.toNat < 128 then (e.toNat : Int) else (e.toNat : Int) - 256 := by
    rw [BitVec.toInt_eq_toNat_cond]
    split <;> split <;> omega
  rw [← he]
  rfl

/-- A word plus a sign-extended byte is their integer sum modulo 65536 (R237). -/
theorem add_sext16 (w : Word) (e : Byte) : w + sext16 e =
    BitVec.ofInt 16 ((w.toNat : Int) + (if e.toNat < 128 then (e.toNat : Int) else (e.toNat : Int) - 256)) := by
  rw [BitVec.ofInt_add, ← sext16_eq_ofInt, BitVec.ofInt_natCast, BitVec.ofNat_toNat, BitVec.setWidth_eq]

end Sys2Proof.Machine

namespace Sys2Proof.Proofs
open Sys2Proof.Machine Sys2Proof.Forms

/-- Settles O26: each form runs the push or the pop of its pair; the store of SP is two writes of memory, which leave
the CPU registers. -/
theorem stackTransferResults : Obligations.StackTransferResults := by
  refine ⟨fun x hx s => ?_, fun x hx s => ?_, fun a16 s => ⟨rfl, ?_⟩⟩
  · obtain ⟨henc, hexec⟩ := pushForms_spec x hx
    exact ⟨henc, hexec ▸ pushPair_eq_after x.1 s⟩
  · obtain ⟨henc, hexec⟩ := popForms_spec x hx
    exact ⟨henc, hexec ▸ popPair_eq_after (popForms_ne_sp x hx) s⟩
  · have hcpu : ((s.memWrite a16 (loByte s.cpu.sp)).memWrite (a16 + 1) (hiByte s.cpu.sp)).cpu = s.cpu := by simp
    exact done_eq_after hcpu 20

/-- Settles O27: the sum of `spPlusE` is the signed one, and its carries are those of the low bytes; each instruction
writes that sum and those flags. -/
theorem spPlusDisplacementResults : Obligations.SpPlusDisplacementResults := by
  intro e s sp res f
  have hsum : spPlusE s.cpu.sp e =
      (res, decide (sp % 16 + e.toNat % 16 > 15), decide (sp % 256 + e.toNat > 255)) := by
    rw [spPlusE, add_sext16]
  refine ⟨rfl, rfl, hsum, ?_, ?_⟩
  · change execLdHLSPDisp e s = _
    rw [execLdHLSPDisp, hsum]
    rfl
  · change execAddSPDisp e s = _
    rw [execAddSPDisp, hsum]
    rfl

end Sys2Proof.Proofs
end

section
/-! SUPPORT. The 8-bit ALU: what its operand forms run, `add8` and `sub8` in numbers, and the next state of INC, DEC and
the flag operations. -/

namespace Sys2Proof.Machine
open Sys2Proof.Forms

/-! ### Bytes as numbers -/

theorem byte_eq_zero_iff (n : Nat) : byte n = 0 ↔ n % 256 = 0 := by
  rw [byte, ← BitVec.toNat_inj, BitVec.toNat_ofNat]
  rfl

theorem decide_eq_zero (v : Byte) : decide (v = 0) = decide (v.toNat = 0) :=
  decide_eq_decide.mpr BitVec.toNat_inj.symm

theorem eq_byte_toNat (v : Byte) : v = byte v.toNat := by rw [byte, BitVec.ofNat_toNat, BitVec.setWidth_eq]

theorem add_one_eq_byte (v : Byte) : v + 1 = byte (v.toNat + 1) := by
  unfold byte
  bv_omega

theorem sub_one_eq_byte (v : Byte) : v - 1 = byte (v.toNat + 255) := by
  unfold byte
  bv_omega

/-- The old carry as the addend 0 or 1 of ADC and SBC. -/
theorem flagC_toNat (s : State) : s.flagC.toNat = if oldC s then 1 else 0 := by
  show (oldC s).toNat = _
  cases oldC s <;> rfl

/-! ### The sum and the difference -/

/-- R241 in numbers. -/
theorem add8_eq (a b : Byte) (cin : Bool) : add8 a b cin =
    { res := byte (a.toNat + b.toNat + cin.toNat)
      z := decide ((a.toNat + b.toNat + cin.toNat) % 256 = 0)
      h := decide (a.toNat % 16 + b.toNat % 16 + cin.toNat > 15)
      c := decide (a.toNat + b.toNat + cin.toNat > 255) } := by
  simp only [← byte_eq_zero_iff]
  rfl

/-- A difference of bytes and a borrow is above -512, so with 512 added it is a natural number. -/
theorem ofInt_sub_eq_byte (a b : Byte) (cin : Bool) :
    BitVec.ofInt 8 ((a.toNat : Int) - b.toNat - cin.toNat) = byte (a.toNat + 512 - b.toNat - cin.toNat) := by
  have hb := b.isLt
  have hc := cin.toNat_le
  apply BitVec.eq_of_toNat_eq
  rw [byte, BitVec.toNat_ofInt, BitVec.toNat_ofNat]
  omega

/-- R242 in numbers. -/
theorem sub8_eq (a b : Byte) (cin : Bool) : sub8 a b cin =
    { res := byte (a.toNat + 512 - b.toNat - cin.toNat)
      z := decide ((a.toNat + 512 - b.toNat - cin.toNat) % 256 = 0)
      h := decide (a.toNat % 16 < b.toNat % 16 + cin.toNat)
      c := decide (a.toNat < b.toNat + cin.toNat) } := by
  simp only [sub8, ofInt_sub_eq_byte, byte_eq_zero_iff]

/-- Without a borrow in, the difference is 0 for equal operands alone. -/
theorem sub8_false_eq (a b : Byte) : sub8 a b false =
    { res := byte (a.toNat + 256 - b.toNat)
      z := decide (a.toNat = b.toNat)
      h := decide (a.toNat % 16 < b.toNat % 16)
      c := decide (a.toNat < b.toNat) } := by
  have ha := a.isLt
  have hb := b.isLt
  have hres : byte (a.toNat + 512 - b.toNat) = byte (a.toNat + 256 - b.toNat) := by
    apply BitVec.eq_of_toNat_eq
    rw [byte, byte, BitVec.toNat_ofNat, BitVec.toNat_ofNat]
    omega
  have hz : (a.toNat + 512 - b.toNat) % 256 = 0 ↔ a.toNat = b.toNat := by omega
  rw [sub8_eq]
  simp only [Bool.toNat_false, Nat.sub_zero, Nat.add_zero, hres, hz]

/-- Adding the operand and the borrow back gives the minuend, and overflows exactly when the difference borrowed. -/
theorem add8_sub8 (a b : Byte) (cin : Bool) :
    (sub8 a b cin).c = (add8 (sub8 a b cin).res b cin).c ∧ (add8 (sub8 a b cin).res b cin).res = a := by
  have ha := a.isLt
  have hb := b.isLt
  have hc := cin.toNat_le
  have hres : (byte (a.toNat + 512 - b.toNat - cin.toNat)).toNat = (a.toNat + 512 - b.toNat - cin.toNat) % 256 := rfl
  rw [sub8_eq, add8_eq, hres]
  constructor
  · rw [decide_eq_decide]
    omega
  · apply BitVec.eq_of_toNat_eq
    rw [byte, BitVec.toNat_ofNat]
    omega

/-! ### The operand forms of the ALU group -/

theorem encode_aluInstr (op : AluOp) (src : AluSrc) : encode (aluInstr op src) = aluBytes op src := by
  cases src with
  | reg r => cases op <;> cases r <;> rfl
  | mem | imm d8 => cases op <;> rfl

/-- An ALU operation changes the CPU registers alone, by what they and the operand hold. -/
theorem alu_done {s t : State} (h : t.cpu = s.cpu) (op : AluOp) (v : Byte) (n : Nat) :
    (t.alu op v).done n = .next (after t (s.alu op v).cpu n) := by
  have ht : t = { t with cpu := s.cpu } := by rw [← h]
  rw [ht]
  cases op <;> rfl

theorem readState_cpu (src : AluSrc) (s : State) : (src.readState s).cpu = s.cpu := by
  cases src with
  | mem => exact s.noteRead_cpu s.hl
  | reg | imm => rfl

/-- Each form reads its operand, then does the operation on A and that operand. -/
theorem exec_aluInstr (op : AluOp) (src : AluSrc) (s : State) : exec (aluInstr op src) s =
    .next (after (src.readState s) (s.alu op (src.value s)).cpu src.cycles) := by
  rw [← alu_done (readState_cpu src s)]
  cases src with
  | reg r => cases op <;> cases r <;> rfl
  | mem | imm d8 => cases op <;> rfl

theorem exec_aluInstr_next {op : AluOp} {src : AluSrc} {s t : State} (h : exec (aluInstr op src) s = .next t) :
    t.cpu = (s.alu op (src.value s)).cpu := by
  rw [exec_aluInstr] at h
  cases h
  rfl

/-! ### INC, DEC and the flag operations -/

theorem encode_incRegInstr (r : Reg8) : encode (incRegInstr r) = [byte (0x04 + 8 * regField r)] := by cases r <;> rfl

theorem exec_incRegInstr (r : Reg8) : exec (incRegInstr r) = incReg r := by cases r <;> rfl

theorem encode_decRegInstr (r : Reg8) : encode (decRegInstr r) = [byte (0x05 + 8 * regField r)] := by cases r <;> rfl

theorem exec_decRegInstr (r : Reg8) : exec (decRegInstr r) = decReg r := by cases r <;> rfl

/-- The end of an instruction that last set the flags, having left the other registers of `s` alone. -/
theorem setFlags_done {s t : State} (h : t.cpu = s.cpu) (z n hc c : Bool) (k : Nat) :
    (t.setFlags z n hc c).done k = .next (after t { s.cpu with f := packFlags z n hc c } k) := by
  rw [← h]
  rfl

/-- The end of an instruction that wrote a register and then set the flags. -/
theorem setReg_setFlags_done (s : State) (r : Reg8) (v : Byte) (z n h c : Bool) (k : Nat) :
    ((s.setReg r v).setFlags z n h c).done k =
      .next (after s { (s.setReg r v).cpu with f := packFlags z n h c } k) := by
  cases r <;> rfl

/-- The flags of INC (R274) in numbers. -/
theorem incFlags_eq {s t : State} (h : t.cpu.f = s.cpu.f) (v : Byte) : t.incFlags v =
    t.setFlags (decide (v.toNat = 255)) false (decide (v.toNat % 16 = 15)) (oldC s) := by
  have hz : v + 1 = 0 ↔ v.toNat = 255 := by bv_omega
  simp only [State.incFlags, State.flagC, h, hz]
  rfl

/-- The flags of DEC (R276) in numbers. -/
theorem decFlags_eq {s t : State} (h : t.cpu.f = s.cpu.f) (v : Byte) : t.decFlags v =
    t.setFlags (decide (v.toNat = 1)) true (decide (v.toNat % 16 = 0)) (oldC s) := by
  have hz : v - 1 = 0 ↔ v.toNat = 1 := by bv_omega
  simp only [State.decFlags, State.flagC, h, hz]
  rfl

/-- `v ^ 0xFF` is the complement (R279). -/
theorem xor_ff_eq_byte (v : Byte) : v ^^^ 0xFF#8 = byte (255 - v.toNat) := by
  apply BitVec.eq_of_toNat_eq
  change (v ^^^ BitVec.allOnes 8).toNat = (255 - v.toNat) % 256
  rw [BitVec.xor_allOnes, BitVec.toNat_not]
  omega

/-! ### DAA in numbers (R278) -/

/-- What DAA leaves in A, from the number in A and the flags N, H, C. -/
def daaNat (a : Nat) (n h c : Bool) : Nat :=
  let a1 := if c || decide (a > 0x99) then (a + 0x60) % 256 else a
  let b1 := if c then (a + 256 - 0x60) % 256 else a
  if n then if h then (b1 + 256 - 6) % 256 else b1
  else if h || decide (a1 % 16 > 9) then (a1 + 6) % 256 else a1

theorem daa_fst_toNat (a : Byte) (n h c : Bool) : (daa a n h c).1.toNat = daaNat a.toNat n h c := by
  have hsub : ∀ v k : Byte, (v - k).toNat = (v.toNat + 256 - k.toNat) % 256 := fun v k => by bv_omega
  simp only [daa, daaNat, apply_ite Prod.fst, apply_ite BitVec.toNat, hsub, BitVec.toNat_add]
  rfl

theorem daa_snd (a : Byte) (n h c : Bool) : (daa a n h c).2 = if n then c else c || decide (a.toNat > 0x99) := by
  cases n <;> rfl

/-- After an addition the two corrections are independent: adding 0x60 leaves the low digit. -/
theorem daaNat_false_eq {a : Nat} (ha : a < 256) (h c : Bool) : daaNat a false h c =
    (a + (if c = true ∨ a > 0x99 then 0x60 else 0) + (if h = true ∨ a % 16 > 9 then 6 else 0)) % 256 := by
  have hlow : (if c = true ∨ a > 0x99 then (a + 0x60) % 256 else a) % 16 = a % 16 := by split <;> omega
  simp only [daaNat, Bool.or_eq_true, decide_eq_true_eq, hlow, Bool.false_eq_true, if_false]
  split_ifs <;> omega

theorem daaNat_true_eq {a : Nat} (ha : a < 256) (h c : Bool) : daaNat a true h c =
    (a + 256 - (if c = true then 0x60 else 0) - (if h = true then 6 else 0)) % 256 := by
  simp only [daaNat, if_true]
  split_ifs <;> omega

/-! ### Two-digit decimal numbers -/

/-- The number whose hexadecimal digits are the decimal digits of `n`. -/
def bcdNat (n : Nat) : Nat := n / 10 * 16 + n % 10

theorem bcdNat_digits (p : Nat) {q : Nat} (hq : q < 10) : bcdNat (10 * p + q) = 16 * p + q := by
  unfold bcdNat
  omega

theorem exists_digits {n : Nat} (h : n < 100) : ∃ p q, p < 10 ∧ q < 10 ∧ n = 10 * p + q :=
  ⟨n / 10, n % 10, by omega, by omega, by omega⟩

theorem byte_bcdNat_toNat {n : Nat} (h : n < 100) : (byte (bcdNat n)).toNat = bcdNat n := by
  rw [byte, BitVec.toNat_ofNat, bcdNat]
  omega

theorem bcdNat_lt_iff (x y : Nat) : bcdNat x < bcdNat y ↔ x < y := by
  unfold bcdNat
  omega

/-- The carry of the sum of two decimal numbers: out of the byte, or by the comparison with 0x99. -/
theorem bcdNat_carry_iff {x y : Nat} (hx : x < 100) (hy : y < 100) :
    (bcdNat x + bcdNat y > 255 ∨ (bcdNat x + bcdNat y) % 256 > 0x99) ↔ 100 ≤ x + y := by
  obtain ⟨p, q, hp, hq, rfl⟩ := exists_digits hx
  obtain ⟨r, s, hr, hs, rfl⟩ := exists_digits hy
  rw [bcdNat_digits p hq, bcdNat_digits r hs]
  omega

/-- DAA gives each digit of a sum of decimal numbers its carry: 6 where the low digits reach 10, 0x60 where the numbers
reach 100. -/
theorem daaNat_add_bcdNat {x y : Nat} (hx : x < 100) (hy : y < 100) :
    daaNat ((bcdNat x + bcdNat y) % 256) false (decide (bcdNat x % 16 + bcdNat y % 16 > 15))
      (decide (bcdNat x + bcdNat y > 255)) = bcdNat ((x + y) % 100) := by
  rw [daaNat_false_eq (Nat.mod_lt _ (by decide))]
  simp only [decide_eq_true_eq, bcdNat_carry_iff hx hy]
  obtain ⟨p, q, hp, hq, rfl⟩ := exists_digits hx
  obtain ⟨r, s, hr, hs, rfl⟩ := exists_digits hy
  have hlow : ((16 * p + q) % 16 + (16 * r + s) % 16 > 15 ∨ (16 * p + q + (16 * r + s)) % 256 % 16 > 9) ↔
      10 ≤ q + s := by omega
  have hten : (10 * p + q + (10 * r + s)) % 100 / 10 = p + r + (if 10 ≤ q + s then 1 else 0) -
      (if 100 ≤ 10 * p + q + (10 * r + s) then 10 else 0) := by split_ifs <;> omega
  have hone : (10 * p + q + (10 * r + s)) % 100 % 10 = q + s - (if 10 ≤ q + s then 10 else 0) := by
    split_ifs <;> omega
  rw [bcdNat_digits p hq, bcdNat_digits r hs, bcdNat, hten, hone]
  simp only [hlow]
  split_ifs <;> omega

/-- DAA gives each digit of a difference of decimal numbers its borrow: 6 where the low digit borrowed, 0x60 where the
number did. -/
theorem daaNat_sub_bcdNat {x y : Nat} (hx : x < 100) (hy : y < 100) :
    daaNat ((bcdNat x + 256 - bcdNat y) % 256) true (decide (bcdNat x % 16 < bcdNat y % 16))
      (decide (bcdNat x < bcdNat y)) = bcdNat ((x + 100 - y) % 100) := by
  rw [daaNat_true_eq (Nat.mod_lt _ (by decide))]
  simp only [decide_eq_true_eq, bcdNat_lt_iff]
  obtain ⟨p, q, hp, hq, rfl⟩ := exists_digits hx
  obtain ⟨r, s, hr, hs, rfl⟩ := exists_digits hy
  have hlow : (16 * p + q) % 16 < (16 * r + s) % 16 ↔ q < s := by omega
  have hten : (10 * p + q + 100 - (10 * r + s)) % 100 / 10 = p + (if 10 * p + q < 10 * r + s then 10 else 0) -
      r - (if q < s then 1 else 0) := by split_ifs <;> omega
  have hone : (10 * p + q + 100 - (10 * r + s)) % 100 % 10 = q + (if q < s then 10 else 0) - s := by
    split_ifs <;> omega
  rw [bcdNat_digits p hq, bcdNat_digits r hs, bcdNat, hten, hone]
  simp only [hlow]
  split_ifs <;> omega

/-- ADD then DAA on decimal bytes: the decimal sum and its carry. -/
theorem daa_add8_bcdNat {x y : Nat} (hx : x < 100) (hy : y < 100) :
    let r := add8 (byte (bcdNat x)) (byte (bcdNat y)) false
    daa r.res false r.h r.c = (byte (bcdNat ((x + y) % 100)), decide (100 ≤ x + y)) := by
  have hres : (byte (bcdNat x + bcdNat y)).toNat = (bcdNat x + bcdNat y) % 256 := rfl
  simp only [add8_eq, byte_bcdNat_toNat hx, byte_bcdNat_toNat hy, Bool.toNat_false, Nat.add_zero]
  apply Prod.ext
  · rw [eq_byte_toNat (daa ..).1, daa_fst_toNat, hres, daaNat_add_bcdNat hx hy]
  · rw [daa_snd, hres, if_neg Bool.false_ne_true, ← Bool.decide_or]
    exact decide_eq_decide.mpr (bcdNat_carry_iff hx hy)

/-- SUB then DAA on decimal bytes: the decimal difference and its borrow. -/
theorem daa_sub8_bcdNat {x y : Nat} (hx : x < 100) (hy : y < 100) :
    let r := sub8 (byte (bcdNat x)) (byte (bcdNat y)) false
    daa r.res true r.h r.c = (byte (bcdNat ((x + 100 - y) % 100)), decide (x < y)) := by
  have hres : (byte (bcdNat x + 256 - bcdNat y)).toNat = (bcdNat x + 256 - bcdNat y) % 256 := rfl
  simp only [sub8_false_eq, byte_bcdNat_toNat hx, byte_bcdNat_toNat hy]
  apply Prod.ext
  · rw [eq_byte_toNat (daa ..).1, daa_fst_toNat, hres, daaNat_sub_bcdNat hx hy]
  · rw [daa_snd, if_pos rfl]
    exact decide_eq_decide.mpr (bcdNat_lt_iff x y)

/-- DAA leaves in A and C what it computes from the CPU registers before it. -/
theorem exec_daa_next {s t u : State} (ht : t.cpu = s.cpu) (h : exec .daa t = .next u) :
    (u.cpu.a, oldC u) = daa s.cpu.a s.flagN s.flagH s.flagC := by
  simp only [State.flagN, State.flagH, State.flagC, ← ht]
  cases h
  exact Prod.ext rfl (State.setFlags_flagC ..)

end Sys2Proof.Machine

namespace Sys2Proof.Proofs
open Sys2Proof.Machine Sys2Proof.Forms

/-- Settles O28: every form is the operation on A and its operand, and `add8` is the sum in numbers. -/
theorem addResults : Obligations.AddResults := by
  intro src s a v c
  refine ⟨encode_aluInstr .add src, ?_, encode_aluInstr .adc src, ?_⟩
  · rw [exec_aluInstr, State.alu, add8_eq]
    rfl
  · rw [exec_aluInstr, State.alu, add8_eq, flagC_toNat]
    rfl

/-- Settles O29: every form is the operation on A and its operand, and `sub8` is the difference in numbers. -/
theorem subtractResults : Obligations.SubtractResults := by
  intro src s a v c
  refine ⟨encode_aluInstr .sub src, ?_, encode_aluInstr .sbc src, ?_⟩
  · rw [exec_aluInstr, State.alu, sub8_false_eq]
    rfl
  · rw [exec_aluInstr, State.alu, sub8_eq, flagC_toNat]
    rfl

/-- Settles O30: every form is the operation on A and its operand, with Z the test of the byte's number. -/
theorem logicResults : Obligations.LogicResults := by
  intro src s run
  refine ⟨⟨encode_aluInstr .and src, ?_⟩, ⟨encode_aluInstr .xor src, ?_⟩, ⟨encode_aluInstr .or src, ?_⟩⟩
  all_goals
    rw [exec_aluInstr, State.alu, State.logicA, decide_eq_zero]
    rfl

/-- Settles O31: every form is the operation on A and its operand, which sets the flags of `sub8` alone. -/
theorem compareResults : Obligations.CompareResults := by
  intro src s a v
  refine ⟨encode_aluInstr .cp src, ?_⟩
  rw [exec_aluInstr, State.alu, sub8_false_eq]
  rfl

/-- Settles O32: CP and SUB set the flags of one difference; without the old carry ADC and SBC are ADD and SUB; the
law of `sub8` is `add8_sub8`. -/
theorem aluGroupLaws : Obligations.AluGroupLaws := by
  refine ⟨fun src s t u ht hu => ?_, fun src s h => ?_, add8_sub8⟩
  · rw [exec_aluInstr_next ht, exec_aluInstr_next hu]
    exact ⟨rfl, rfl⟩
  · have hc : s.flagC = false := h
    simp only [exec_aluInstr, State.alu, hc, and_self]

/-- Settles O33: the new value and the flags of INC and DEC in numbers; a write of memory leaves the CPU registers. -/
theorem incrementDecrementResults : Obligations.IncrementDecrementResults := by
  intro s inc dec hl
  have hcpu : ∀ v, ((s.noteRead s.hl).memWrite s.hl v).cpu = s.cpu := by simp
  refine ⟨fun r => ⟨encode_incRegInstr r, ?_, encode_decRegInstr r, ?_⟩, rfl, ?_, rfl, ?_⟩
  · rw [exec_incRegInstr, incReg, incFlags_eq (State.setReg_cpu_f ..), add_one_eq_byte]
    exact setReg_setFlags_done ..
  · rw [exec_decRegInstr, decReg, decFlags_eq (State.setReg_cpu_f ..), sub_one_eq_byte]
    exact setReg_setFlags_done ..
  · show execIncIndHL s = _
    simp only [execIncIndHL, State.readByte_fst, State.readByte_snd, State.hl_noteRead, add_one_eq_byte]
    rw [incFlags_eq (congrArg Cpu.f (hcpu _))]
    exact setFlags_done (hcpu _) ..
  · show execDecIndHL s = _
    simp only [execDecIndHL, State.readByte_fst, State.readByte_snd, State.hl_noteRead, sub_one_eq_byte]
    rw [decFlags_eq (congrArg Cpu.f (hcpu _))]
    exact setFlags_done (hcpu _) ..

/-- Settles O34: DAA in numbers is `daaNat`, and CPL the complement; SCF and CCF set the flags alone. -/
theorem accumulatorFlagResults : Obligations.AccumulatorFlagResults := by
  intro s a up a1 a2 b1 b2 res
  have hdaa : (daa s.cpu.a s.flagN s.flagH s.flagC).1.toNat = res := daa_fst_toNat ..
  refine ⟨rfl, ?_, rfl, ?_, rfl, rfl, rfl, rfl⟩
  · change execDaa s = _
    rw [execDaa, decide_eq_zero, hdaa, daa_snd, eq_byte_toNat (daa ..).1, hdaa]
    rfl
  · change execCpl s = _
    rw [execCpl, xor_ff_eq_byte]
    rfl

/-- Settles O35: DAA reads the flags that ADD and SUB leave, and corrects the digits by them. -/
theorem daaMakesDecimalSums : Obligations.DaaMakesDecimalSums := by
  intro x y s t u hx hy bcd ha
  refine ⟨fun ht hu => ?_, fun ht hu => ?_⟩
  · have h := exec_daa_next (exec_aluInstr_next (op := .add) (src := .imm (bcd y)) ht) hu
    simp only [State.alu, State.setFlags_flagN, State.setFlags_flagH, State.setFlags_flagC, ha] at h
    exact Prod.mk.inj (h.trans (daa_add8_bcdNat hx hy))
  · have h := exec_daa_next (exec_aluInstr_next (op := .sub) (src := .imm (bcd y)) ht) hu
    simp only [State.alu, State.setFlags_flagN, State.setFlags_flagH, State.setFlags_flagC, ha] at h
    exact Prod.mk.inj (h.trans (daa_sub8_bcdNat hx hy))

end Sys2Proof.Proofs
end

section
/-! SUPPORT. The next state of the 16-bit arithmetic: what ADD HL, INC and DEC of a pair run, and their words as
numbers. -/

namespace Sys2Proof.Machine
open Sys2Proof.Forms

/-! ### What the pair forms run -/

theorem addHLForms_spec : ∀ x ∈ addHLForms, encode x.2.2 = [x.2.1] ∧ exec x.2.2 = addHLPair x.1 := by
  simp only [addHLForms, List.forall_mem_cons]
  exact ⟨⟨rfl, rfl⟩, ⟨rfl, rfl⟩, ⟨rfl, rfl⟩, ⟨rfl, rfl⟩, nofun⟩

theorem incPairForms_spec : ∀ x ∈ incPairForms, encode x.2.2 = [x.2.1] ∧ exec x.2.2 = incPair x.1 := by
  simp only [incPairForms, List.forall_mem_cons]
  exact ⟨⟨rfl, rfl⟩, ⟨rfl, rfl⟩, ⟨rfl, rfl⟩, ⟨rfl, rfl⟩, nofun⟩

theorem decPairForms_spec : ∀ x ∈ decPairForms, encode x.2.2 = [x.2.1] ∧ exec x.2.2 = decPair x.1 := by
  simp only [decPairForms, List.forall_mem_cons]
  exact ⟨⟨rfl, rfl⟩, ⟨rfl, rfl⟩, ⟨rfl, rfl⟩, ⟨rfl, rfl⟩, nofun⟩

/-! ### The next states -/

/-- The sum is written to HL and then its flags, from the operands before the write (R290). -/
theorem addHLPair_eq_after (p : Pair) (s : State) : addHLPair p s = .next (after s { (s.setPair .hl
    (BitVec.ofNat 16 (s.hl.toNat + (s.getPair p).toNat))).cpu with
      f := packFlags (oldZ s) false (decide (s.hl.toNat % 4096 + (s.getPair p).toNat % 4096 > 4095))
        (decide (s.hl.toNat + (s.getPair p).toNat > 65535)) } 8) := by
  rw [addHLPair, BitVec.add_def]
  rfl

theorem incPair_eq_after (p : Pair) (s : State) : incPair p s =
    .next (after s (s.setPair p (BitVec.ofNat 16 ((s.getPair p).toNat + 1))).cpu 8) := by
  rw [incPair, BitVec.add_def]
  exact setPair_done rfl p _ 8

/-- A pair minus one is the pair plus 65535 modulo 65536 (R292). -/
theorem decPair_eq_after (p : Pair) (s : State) : decPair p s =
    .next (after s (s.setPair p (BitVec.ofNat 16 ((s.getPair p).toNat + 65535))).cpu 8) := by
  rw [decPair, BitVec.sub_def, Nat.add_comm]
  exact setPair_done rfl p _ 8

end Sys2Proof.Machine

namespace Sys2Proof.Proofs
open Sys2Proof.Machine Sys2Proof.Forms

/-- Settles O36: each form runs the addition, INC or DEC of its pair, whose words are sums modulo 65536. -/
theorem pairArithmeticResults : Obligations.PairArithmeticResults := by
  refine ⟨fun x hx s => ?_, fun x hx s => ?_, fun x hx s => ?_⟩
  · obtain ⟨henc, hexec⟩ := addHLForms_spec x hx
    exact ⟨henc, hexec ▸ addHLPair_eq_after x.1 s⟩
  · obtain ⟨henc, hexec⟩ := incPairForms_spec x hx
    exact ⟨henc, hexec ▸ incPair_eq_after x.1 s⟩
  · obtain ⟨henc, hexec⟩ := decPairForms_spec x hx
    exact ⟨henc, hexec ▸ decPair_eq_after x.1 s⟩

end Sys2Proof.Proofs
end

section
/-! SUPPORT. The next state of the rotates, shifts and SWAP: what their forms run, and `rotate` in numbers. -/

namespace Sys2Proof.Machine
open Sys2Proof.Forms

/-! ### The bits that leave a byte, and those that enter -/

theorem bit_seven_eq (v : Byte) : bit v 7 = decide (128 ≤ v.toNat) := v.msb_eq_decide

theorem bit_zero_eq (v : Byte) : bit v 0 = decide (v.toNat % 2 = 1) := Nat.testBit_zero ..

theorem bit_zero_toNat (v : Byte) : (bit v 0).toNat = v.toNat % 2 :=
  (Nat.toNat_testBit v.toNat 0).trans (by rw [Nat.pow_zero, Nat.div_one])

theorem bit_seven_toNat (v : Byte) : (bit v 7).toNat = v.toNat / 128 :=
  (Nat.toNat_testBit v.toNat 7).trans (by omega)

/-- `v & 0x80` is bit 7 alone (R314). -/
theorem and_80_eq_ite (v : Byte) : v &&& 0x80#8 = if bit v 7 then 0x80#8 else 0 := BitVec.and_twoPow v 7

/-- The OR of a multiple of `2 ^ k` and a number below `2 ^ k` is their sum. -/
theorem or_toNat_of_lt {x y : Byte} {k a : Nat} (hx : x.toNat = 2 ^ k * a) (hy : y.toNat < 2 ^ k) :
    (x ||| y).toNat = x.toNat + y.toNat := by
  rw [BitVec.toNat_or, hx, Nat.two_pow_add_eq_or_of_lt hy]

/-- A shift left leaves bit 0 clear, so a bit that enters there is added. -/
theorem shiftLeft_or_toNat (v : Byte) (b : Bool) :
    ((v <<< 1) ||| (if b then 0x01#8 else 0)).toNat = v.toNat * 2 % 256 + b.toNat := by
  have hv : (v <<< 1).toNat = v.toNat * 2 % 256 := by rw [BitVec.toNat_shiftLeft, Nat.shiftLeft_eq]
  have hb : (if b then 0x01#8 else 0).toNat = b.toNat := by cases b <;> rfl
  rw [or_toNat_of_lt (k := 1) (a := v.toNat % 128) (by omega) (hb ▸ b.toNat_lt), hv, hb]

/-- A shift right leaves bit 7 clear, so a bit that enters there is added. -/
theorem shiftRight_or_toNat (v : Byte) (b : Bool) :
    ((v >>> 1) ||| (if b then 0x80#8 else 0)).toNat = v.toNat / 2 + 128 * b.toNat := by
  have hv : (v >>> 1).toNat = v.toNat / 2 := by rw [BitVec.toNat_ushiftRight, Nat.shiftRight_eq_div_pow]
  have hb : (if b then 0x80#8 else 0).toNat = 128 * b.toNat := by cases b <;> rfl
  rw [BitVec.or_comm, or_toNat_of_lt (k := 7) hb (by omega), hv, hb, Nat.add_comm]

/-- SWAP moves each half of the byte to where the other was (R316). -/
theorem shiftLeft_or_shiftRight_toNat (v : Byte) :
    ((v <<< 4) ||| (v >>> 4)).toNat = v.toNat % 16 * 16 + v.toNat / 16 := by
  have hhi : (v <<< 4).toNat = v.toNat % 16 * 16 := by
    rw [BitVec.toNat_shiftLeft, Nat.shiftLeft_eq]
    omega
  have hlo : (v >>> 4).toNat = v.toNat / 16 := by rw [BitVec.toNat_ushiftRight, Nat.shiftRight_eq_div_pow]
  rw [or_toNat_of_lt (k := 4) (a := v.toNat % 16) (by omega) (by omega), hhi, hlo]

/-! ### `rotate` in numbers (R300 to R319) -/

theorem rotate_fst_toNat (op : RotOp) (v : Byte) (cin : Bool) :
    (rotate op v cin).1.toNat = rotValue op v.toNat cin.toNat := by
  cases op with
  | rlc => rw [rotate, rotValue, shiftLeft_or_toNat, bit_seven_toNat]
  | rrc => rw [rotate, rotValue, shiftRight_or_toNat, bit_zero_toNat]
  | rl => rw [rotate, rotValue, shiftLeft_or_toNat]
  | rr => rw [rotate, rotValue, shiftRight_or_toNat]
  | sla => rw [rotate, rotValue, BitVec.toNat_shiftLeft, Nat.shiftLeft_eq]
  | sra => rw [rotate, rotValue, and_80_eq_ite, shiftRight_or_toNat, bit_seven_toNat]
  | swap => rw [rotate, rotValue, shiftLeft_or_shiftRight_toNat]
  | srl => rfl

theorem rotate_fst (op : RotOp) (v : Byte) (cin : Bool) :
    (rotate op v cin).1 = byte (rotValue op v.toNat cin.toNat) := by
  rw [← rotate_fst_toNat]
  exact eq_byte_toNat _

theorem rotate_snd (op : RotOp) (v : Byte) (cin : Bool) : (rotate op v cin).2 = rotCarry op v.toNat := by
  cases op with
  | rlc | rl | sla => exact bit_seven_eq v
  | rrc | rr | sra | srl => exact bit_zero_eq v
  | swap => rfl

/-- The flags of a CB rotate or shift: Z is the test of the result's number. -/
theorem rotateFlags_rotate (s : State) (op : RotOp) (v : Byte) (cin : Bool) : s.rotateFlags (rotate op v cin) =
    s.setFlags (decide (rotValue op v.toNat cin.toNat = 0)) false false (rotCarry op v.toNat) := by
  rw [State.rotateFlags, decide_eq_zero, rotate_fst_toNat, rotate_snd]

/-! ### What the forms run -/

theorem rotAForms_spec : ∀ x ∈ rotAForms, encode x.2.2 = [x.2.1] ∧ exec x.2.2 = rotateA x.1 := by
  simp only [rotAForms, List.forall_mem_cons]
  exact ⟨⟨rfl, rfl⟩, ⟨rfl, rfl⟩, ⟨rfl, rfl⟩, ⟨rfl, rfl⟩, List.forall_mem_nil _⟩

theorem encode_rotRegInstr (op : RotOp) (r : Reg8) :
    encode (rotRegInstr op r) = [0xCB, byte (8 * rotField op + regField r)] := by
  cases op <;> cases r <;> rfl

theorem exec_rotRegInstr (op : RotOp) (r : Reg8) : exec (rotRegInstr op r) = rotateReg op r := by
  cases op <;> cases r <;> rfl

theorem encode_rotHLInstr (op : RotOp) : encode (rotHLInstr op) = [0xCB, byte (8 * rotField op + 6)] := by
  cases op <;> rfl

theorem exec_rotHLInstr (op : RotOp) : exec (rotHLInstr op) = rotateHL op := by cases op <;> rfl

/-! ### The next states -/

theorem rotateA_eq_after (op : RotOp) (s : State) : rotateA op s = .next (after s { s.cpu with
    a := byte (rotValue op s.cpu.a.toNat (if oldC s then 1 else 0))
    f := packFlags false false false (rotCarry op s.cpu.a.toNat) } 4) := by
  rw [← flagC_toNat, ← rotate_fst, ← rotate_snd op s.cpu.a s.flagC]
  rfl

theorem rotateReg_eq_after (op : RotOp) (r : Reg8) (s : State) :
    let res := rotValue op (s.getReg r).toNat (if oldC s then 1 else 0)
    rotateReg op r s = .next (after s { (s.setReg r (byte res)).cpu with
      f := packFlags (decide (res = 0)) false false (rotCarry op (s.getReg r).toNat) } 8) := by
  simp only [rotateReg, rotateFlags_rotate, rotate_fst, flagC_toNat]
  exact setReg_setFlags_done ..

/-- The byte at HL is read and then written (R296), and neither access changes the old carry or HL. -/
theorem rotateHL_eq_after (op : RotOp) (s : State) :
    let res := rotValue op (s.memRead s.hl).toNat (if oldC s then 1 else 0)
    rotateHL op s = .next (after ((s.noteRead s.hl).memWrite s.hl (byte res)) { s.cpu with
      f := packFlags (decide (res = 0)) false false (rotCarry op (s.memRead s.hl).toNat) } 16) := by
  have hc : (s.noteRead s.hl).flagC = s.flagC := by rw [State.flagC, State.flagC, State.noteRead_cpu]
  have hcpu : ∀ v, ((s.noteRead s.hl).memWrite s.hl v).cpu = s.cpu := by simp
  simp only [rotateHL, State.readByte_fst, State.readByte_snd, State.hl_noteRead, hc, rotateFlags_rotate, rotate_fst,
    flagC_toNat]
  exact setFlags_done (hcpu _) ..

end Sys2Proof.Machine

namespace Sys2Proof.Proofs
open Sys2Proof.Machine Sys2Proof.Forms

/-- Settles O37: each form runs the rotate of A or of its register, and `rotate` is `rotValue` and `rotCarry` in
numbers. -/
theorem rotateRegisterResults : Obligations.RotateRegisterResults := by
  refine ⟨fun x hx s => ?_, fun op r s => ⟨encode_rotRegInstr op r, ?_⟩⟩
  · obtain ⟨henc, hexec⟩ := rotAForms_spec x hx
    exact ⟨henc, hexec ▸ rotateA_eq_after x.1 s⟩
  · rw [exec_rotRegInstr]
    exact rotateReg_eq_after op r s

/-- Settles O38: each form runs the rotate of the byte at HL, one read and one write of memory, which leave the CPU
registers. -/
theorem rotateMemoryResults : Obligations.RotateMemoryResults := by
  intro op s
  refine ⟨encode_rotHLInstr op, ?_⟩
  rw [exec_rotHLInstr]
  exact rotateHL_eq_after op s

end Sys2Proof.Proofs
end

section
/-! SUPPORT. The next state of BIT, RES and SET: what their forms run, and the bit operations on a byte in numbers. -/

namespace Sys2Proof.Machine
open Sys2Proof.Forms

/-! ### One bit of a byte in numbers -/

theorem bit_eq_decide (v : Byte) (b : Nat) : bit v b = decide (v.toNat / 2 ^ b % 2 = 1) :=
  Nat.testBit_eq_decide_div_mod_eq

theorem not_bit_eq_decide (v : Byte) (b : Nat) : (!bit v b) = decide (v.toNat / 2 ^ b % 2 = 0) := by
  rw [bit_eq_decide, ← decide_not, decide_eq_decide]
  exact Nat.mod_two_ne_one

theorem byte_add (m n : Nat) : byte (m + n) = byte m + byte n := BitVec.ofNat_add m n

theorem bitMask_eq_byte (b : Nat) : bitMask b = byte (2 ^ b) := by
  apply BitVec.eq_of_toNat_eq
  rw [bitMask, ← BitVec.twoPow_eq, BitVec.toNat_twoPow, byte, BitVec.toNat_ofNat]

/-- The mask keeps the one bit, which is that of the number. -/
theorem and_bitMask (v : Byte) (b : Nat) :
    v &&& bitMask b = if v.toNat / 2 ^ b % 2 = 1 then bitMask b else 0 := by
  rw [bitMask, ← BitVec.twoPow_eq, BitVec.and_twoPow, ← bit, bit_eq_decide]
  simp only [decide_eq_true_eq]
  rfl

/-- What RES keeps of a byte and what it clears do not meet, so their OR, the byte, is their sum. -/
theorem clearBit_add_and_bitMask (v : Byte) (b : Nat) : clearBit v b + (v &&& bitMask b) = v := by
  rw [clearBit, BitVec.add_eq_or_of_and_eq_zero]
  · rw [← BitVec.and_or_distrib_left, BitVec.or_comm, BitVec.or_not_self, BitVec.and_allOnes]
  · ext i
    simp +contextual

/-- `v & ~(1 << b)` (R322) in numbers: a bit that is set is taken away. -/
theorem clearBit_eq_byte (v : Byte) (b : Nat) : clearBit v b = byte (without v.toNat b) := by
  have hsum := clearBit_add_and_bitMask v b
  rw [and_bitMask] at hsum
  rw [without]
  split
  case isTrue hbit =>
    have hle : 2 ^ b ≤ v.toNat := Nat.le_of_not_lt fun hlt => by simp [Nat.div_eq_of_lt hlt] at hbit
    rw [if_pos hbit, bitMask_eq_byte] at hsum
    apply add_right_cancel (b := byte (2 ^ b))
    rw [hsum, ← byte_add, Nat.sub_add_cancel hle]
    exact eq_byte_toNat v
  case isFalse hbit =>
    rw [if_neg hbit, add_zero] at hsum
    rw [hsum]
    exact eq_byte_toNat v

/-- `v | (1 << b)` (R324) in numbers: a bit that is clear is added. -/
theorem setBit_eq_byte (v : Byte) (b : Nat) : setBit v b = byte (withBit v.toNat b) := by
  have hand := and_bitMask v b
  rw [withBit, setBit]
  split
  case isTrue hbit =>
    rw [if_pos hbit] at hand
    rw [← eq_byte_toNat, ← hand]
    ext i
    simp +contextual
  case isFalse hbit =>
    rw [if_neg hbit] at hand
    rw [← BitVec.add_eq_or_of_and_eq_zero _ _ hand, byte_add, ← eq_byte_toNat, bitMask_eq_byte]

/-! ### What the forms run -/

theorem bitRegInstr_spec (b : Fin 8) (r : Reg8) : encode (bitRegInstr b r) =
    [0xCB, byte (0x40 + 8 * b.val + regField r)] ∧ exec (bitRegInstr b r) = bitReg b r := by
  fin_cases b <;> cases r <;> exact ⟨rfl, rfl⟩

theorem resRegInstr_spec (b : Fin 8) (r : Reg8) : encode (resRegInstr b r) =
    [0xCB, byte (0x80 + 8 * b.val + regField r)] ∧ exec (resRegInstr b r) = resReg b r := by
  fin_cases b <;> cases r <;> exact ⟨rfl, rfl⟩

theorem setRegInstr_spec (b : Fin 8) (r : Reg8) : encode (setRegInstr b r) =
    [0xCB, byte (0xC0 + 8 * b.val + regField r)] ∧ exec (setRegInstr b r) = setReg8Bit b r := by
  fin_cases b <;> cases r <;> exact ⟨rfl, rfl⟩

theorem bitHLInstr_spec (b : Fin 8) : encode (bitHLInstr b) = [0xCB, byte (0x46 + 8 * b.val)] ∧
    exec (bitHLInstr b) = bitHL b := by
  fin_cases b <;> exact ⟨rfl, rfl⟩

theorem resHLInstr_spec (b : Fin 8) : encode (resHLInstr b) = [0xCB, byte (0x86 + 8 * b.val)] ∧
    exec (resHLInstr b) = resHL b := by
  fin_cases b <;> exact ⟨rfl, rfl⟩

theorem setHLInstr_spec (b : Fin 8) : encode (setHLInstr b) = [0xCB, byte (0xC6 + 8 * b.val)] ∧
    exec (setHLInstr b) = setHLBit b := by
  fin_cases b <;> exact ⟨rfl, rfl⟩

/-! ### The next states -/

/-- The flags of BIT (R320) in numbers. -/
theorem bitFlags_eq {s t : State} (h : t.cpu.f = s.cpu.f) (b : Nat) (v : Byte) :
    t.bitFlags b v = t.setFlags (decide (v.toNat / 2 ^ b % 2 = 0)) false true (oldC s) := by
  simp only [State.bitFlags, State.flagC, h, not_bit_eq_decide]
  rfl

theorem bitReg_eq_after (b : Nat) (r : Reg8) (s : State) : bitReg b r s = .next (after s { s.cpu with
    f := packFlags (decide ((s.getReg r).toNat / 2 ^ b % 2 = 0)) false true (oldC s) } 8) := by
  rw [bitReg, bitFlags_eq rfl]
  exact setFlags_done rfl ..

theorem bitHL_eq_after (b : Nat) (s : State) : bitHL b s = .next (after (s.noteRead s.hl) { s.cpu with
    f := packFlags (decide ((s.memRead s.hl).toNat / 2 ^ b % 2 = 0)) false true (oldC s) } 12) := by
  rw [bitHL, State.readByte_fst, State.readByte_snd, bitFlags_eq (congrArg Cpu.f (s.noteRead_cpu s.hl))]
  exact setFlags_done (s.noteRead_cpu s.hl) ..

theorem resReg_eq_after (b : Nat) (r : Reg8) (s : State) : resReg b r s =
    .next (after s (s.setReg r (byte (without (s.getReg r).toNat b))).cpu 8) := by
  rw [resReg, clearBit_eq_byte]
  exact setReg_done rfl ..

theorem setReg8Bit_eq_after (b : Nat) (r : Reg8) (s : State) : setReg8Bit b r s =
    .next (after s (s.setReg r (byte (withBit (s.getReg r).toNat b))).cpu 8) := by
  rw [setReg8Bit, setBit_eq_byte]
  exact setReg_done rfl ..

/-- The end of an instruction that read the byte at HL and wrote a byte back, which leaves the CPU registers alone. -/
theorem writeBack_done (s : State) (v : Byte) (n : Nat) :
    ((s.noteRead s.hl).memWrite (s.noteRead s.hl).hl v).done n =
      .next (after ((s.noteRead s.hl).memWrite s.hl v) s.cpu n) := by
  rw [State.hl_noteRead]
  exact done_eq_after (by simp) n

theorem resHL_eq_after (b : Nat) (s : State) : resHL b s = .next (after
    ((s.noteRead s.hl).memWrite s.hl (byte (without (s.memRead s.hl).toNat b))) s.cpu 16) := by
  rw [← clearBit_eq_byte]
  exact writeBack_done ..

theorem setHLBit_eq_after (b : Nat) (s : State) : setHLBit b s = .next (after
    ((s.noteRead s.hl).memWrite s.hl (byte (withBit (s.memRead s.hl).toNat b))) s.cpu 16) := by
  rw [← setBit_eq_byte]
  exact writeBack_done ..

end Sys2Proof.Machine

namespace Sys2Proof.Proofs
open Sys2Proof.Machine Sys2Proof.Forms

/-- Settles O39: each form runs the operation of its name on its bit and operand, and `bit`, `clearBit` and `setBit`
are arithmetic on the number of the byte. -/
theorem bitResults : Obligations.BitResults := by
  intro b s hl test
  obtain ⟨bitWords, bitRuns⟩ := bitHLInstr_spec b
  obtain ⟨resWords, resRuns⟩ := resHLInstr_spec b
  obtain ⟨setWords, setRuns⟩ := setHLInstr_spec b
  refine ⟨fun r => ?_, bitWords, bitRuns ▸ bitHL_eq_after b s, resWords, resRuns ▸ resHL_eq_after b s,
    setWords, setRuns ▸ setHLBit_eq_after b s⟩
  obtain ⟨bitRegWords, bitRegRuns⟩ := bitRegInstr_spec b r
  obtain ⟨resRegWords, resRegRuns⟩ := resRegInstr_spec b r
  obtain ⟨setRegWords, setRegRuns⟩ := setRegInstr_spec b r
  exact ⟨bitRegWords, bitRegRuns ▸ bitReg_eq_after b r s, resRegWords, resRegRuns ▸ resReg_eq_after b r s,
    setRegWords, setRegRuns ▸ setReg8Bit_eq_after b r s⟩

end Sys2Proof.Proofs
end

section
/-! SUPPORT. The next state of the jumps, the calls and the returns: the form of each condition, and what a call and a
return leave, said once. -/

namespace Sys2Proof.Machine
open Sys2Proof.Forms

/-! ### What the forms run -/

theorem jpCondInstr_spec (a16 : Word) (cc : Cond) : encode (jpCondInstr a16 cc) =
    [byte (0xC2 + 8 * condField cc), loByte a16, hiByte a16] ∧ exec (jpCondInstr a16 cc) = jpCond cc a16 := by
  cases cc <;> exact ⟨rfl, rfl⟩

theorem jrCondInstr_spec (e : Byte) (cc : Cond) : encode (jrCondInstr e cc) =
    [byte (0x20 + 8 * condField cc), e] ∧ exec (jrCondInstr e cc) = jrCond cc e := by
  cases cc <;> exact ⟨rfl, rfl⟩

theorem callCondInstr_spec (a16 : Word) (cc : Cond) : encode (callCondInstr a16 cc) =
    [byte (0xC4 + 8 * condField cc), loByte a16, hiByte a16] ∧ exec (callCondInstr a16 cc) = callCond cc a16 := by
  cases cc <;> exact ⟨rfl, rfl⟩

theorem retCondInstr_spec (cc : Cond) : encode (retCondInstr cc) =
    [byte (0xC0 + 8 * condField cc)] ∧ exec (retCondInstr cc) = retCond cc := by
  cases cc <;> exact ⟨rfl, rfl⟩

theorem rstInstr_spec (t : Fin 8) : encode (rstInstr t) =
    [byte (0xC7 + 8 * t.val)] ∧ exec (rstInstr t) = rstTo t.val := by
  fin_cases t <;> exact ⟨rfl, rfl⟩

/-! ### The conditions (R326) -/

/-- A conditional instruction ends as taken or as not taken, by the flags before it. -/
theorem ite_cond_done (s : State) (cc : Cond) (u v : State) (n k : Nat) :
    (if s.cond cc then u.done n else v.done k) =
      .next (if holds s cc then u.addCycles n else v.addCycles k) := by
  rw [holds_eq_cond]
  exact (apply_ite Host.Outcome.next ..).symm

/-! ### The next states -/

theorem jpCond_eq_after (cc : Cond) (a16 : Word) (s : State) : jpCond cc a16 s =
    .next (if holds s cc then after s { s.cpu with pc := a16 } 16 else after s s.cpu 12) :=
  ite_cond_done s cc ..

theorem jrCond_eq_after (cc : Cond) (e : Byte) (s : State) : jrCond cc e s =
    .next (if holds s cc then after s { s.cpu with pc := s.relTarget e } 12 else after s s.cpu 8) :=
  ite_cond_done s cc ..

/-- What a taken call of `target` leaves at cost `n`: PC on the stack, high byte first, and the jump (R335). -/
def afterCall (s : State) (target : Word) (n : Nat) : State :=
  after ((s.memWrite (s.cpu.sp - 1) (hiByte s.cpu.pc)).memWrite (s.cpu.sp - 2) (loByte s.cpu.pc))
    { s.cpu with sp := s.cpu.sp - 2, pc := target } n

theorem callTo_addCycles (s : State) (target : Word) (n : Nat) :
    (s.callTo target).addCycles n = afterCall s target n := by
  rw [State.callTo, State.push16_eq_withCpu]
  rfl

theorem callTo_done (s : State) (target : Word) (n : Nat) :
    (s.callTo target).done n = .next (afterCall s target n) :=
  congrArg Host.Outcome.next (callTo_addCycles s target n)

theorem callCond_eq_after (cc : Cond) (a16 : Word) (s : State) : callCond cc a16 s =
    .next (if holds s cc then afterCall s a16 24 else after s s.cpu 12) := by
  rw [← callTo_addCycles]
  exact ite_cond_done s cc ..

/-- The registers after a taken return: PC from the two bytes at SP, and SP above them (R337). -/
def returnedCpu (s : State) : Cpu :=
  { s.cpu with sp := s.cpu.sp + 2, pc := cat (s.memRead (s.cpu.sp + 1)) (s.memRead s.cpu.sp) }

/-- A return reads two bytes, the low one first, and writes only PC and SP. -/
theorem returnPc_eq_withCpu (s : State) : s.returnPc =
    { (s.noteRead s.cpu.sp).noteRead (s.cpu.sp + 1) with cpu := returnedCpu s } := by
  have hcpu : ((s.noteRead s.cpu.sp).noteRead (s.cpu.sp + 1)).cpu = s.cpu := by simp
  rw [State.returnPc, State.pop16_snd, State.pop16_fst_eq_cat]
  simp only [State.setPc, State.setSp, hcpu]
  rfl

theorem returnPc_addCycles (s : State) (n : Nat) : s.returnPc.addCycles n =
    after ((s.noteRead s.cpu.sp).noteRead (s.cpu.sp + 1)) (returnedCpu s) n := by
  rw [returnPc_eq_withCpu]
  rfl

theorem retCond_eq_after (cc : Cond) (s : State) : retCond cc s = .next (if holds s cc then
    after ((s.noteRead s.cpu.sp).noteRead (s.cpu.sp + 1)) (returnedCpu s) 20 else after s s.cpu 8) := by
  rw [← returnPc_addCycles]
  exact ite_cond_done s cc ..

/-- RETI is a return that then sets IME and ends a pending EI (R339). -/
theorem execReti_eq_after (s : State) : execReti s =
    .next (after ((s.noteRead s.cpu.sp).noteRead (s.cpu.sp + 1))
      { returnedCpu s with ime := true, eiPending := false } 16) := by
  change State.done { s.returnPc with cpu := { s.returnPc.cpu with ime := true, eiPending := false } } 16 = _
  rw [returnPc_eq_withCpu]
  rfl

end Sys2Proof.Machine

namespace Sys2Proof.Proofs
open Sys2Proof.Machine Sys2Proof.Forms

/-- Settles O40: a jump is one write of PC, a conditional one only where its flag says so; the displacement is added
as a signed byte. -/
theorem jumpResults : Obligations.JumpResults := by
  intro s a16 e rel
  have hrel : s.relTarget e = rel := add_sext16 s.cpu.pc e
  refine ⟨fun cc => ?_, rfl, rfl, fun cc => ?_, rfl, rfl, rfl, hrel ▸ rfl, fun cc => ?_⟩
  · cases cc
    case nz | nc => exact Bool.decide_eq_false.symm
    case z | c => rfl
  · obtain ⟨words, runs⟩ := jpCondInstr_spec a16 cc
    exact ⟨words, runs ▸ jpCond_eq_after cc a16 s⟩
  · obtain ⟨words, runs⟩ := jrCondInstr_spec e cc
    exact ⟨words, runs ▸ hrel ▸ jrCond_eq_after cc e s⟩

/-- Settles O41: CALL, a taken CALL cc and RST are one call of their target, which is two writes of memory and a write
of SP and PC. -/
theorem callResults : Obligations.CallResults := by
  intro s a16 call
  refine ⟨rfl, callTo_done s a16 24, fun cc => ?_, fun t => ?_⟩
  · obtain ⟨words, runs⟩ := callCondInstr_spec a16 cc
    exact ⟨words, runs ▸ callCond_eq_after cc a16 s⟩
  · obtain ⟨words, runs⟩ := rstInstr_spec t
    exact ⟨words, runs ▸ callTo_done s _ 16⟩

/-- Settles O42: RET, a taken RET cc and RETI are one return, which is two reads and a write of SP and PC; RETI then
sets IME and clears ei_pending. -/
theorem returnResults : Obligations.ReturnResults := by
  intro s popped read back
  refine ⟨rfl, congrArg Host.Outcome.next (returnPc_addCycles s 16), fun cc => ?_, rfl, execReti_eq_after s⟩
  obtain ⟨words, runs⟩ := retCondInstr_spec cc
  exact ⟨words, runs ▸ retCond_eq_after cc s⟩

end Sys2Proof.Proofs
end

section
/-! SUPPORT. The next state of NOP, HALT, STOP, DI and EI, the idle step of a halted CPU, and what the poll leaves of
the CPU registers when an enabled source is flagged. -/

namespace Sys2Proof.Machine
open Sys2Proof.Forms

/-! ### STOP and EI (R352, R354) -/

/-- STOP switches the speed in CGB mode with KEY1 bit 0 set, the request of R352. -/
theorem speedSwitchRequested_iff (s : State) : (s.isCgb && bit (s.mem addrKey1) 0) = true ↔
    s.params.colorMode = .cgb ∧ (s.mem addrKey1).getLsbD 0 = true := by
  simp only [Bool.and_eq_true, State.isCgb, decide_eq_true_eq, bit]

theorem execStop_eq_after (d8 : Byte) (s : State) : execStop d8 s = .next (after
    (if s.params.colorMode = .cgb ∧ (s.mem addrKey1).getLsbD 0 = true then
      s.setMem addrKey1 ((s.mem addrKey1 ^^^ 0x80) &&& 0xFE)
    else s) s.cpu 4) := by
  simp only [execStop, speedSwitchRequested_iff]
  split
  · exact done_eq_after rfl 4
  · rfl

theorem execEi_eq_after (s : State) : execEi s = .next (after s (if s.params.eiDelay then
    { s.cpu with eiPending := true } else { s.cpu with ime := true }) 4) := by
  unfold execEi
  split <;> rfl

/-! ### The halted CPU (R351, R405) -/

/-- A halted CPU fetches nothing: its step is 4 idle cycles. -/
theorem cpuStep_of_halted {s : State} (h : s.cpu.halted = true) : cpuStep s = .next (after s s.cpu 4) :=
  if_pos h

/-- With IME set the poll wakes the CPU and takes the pending source of highest priority. -/
theorem State.pollAndService_of_ime {s : State} (hp : s.pendingInterrupts ≠ 0) (hime : s.cpu.ime = true) :
    s.pollAndService =
      State.takeInterrupt { s with cpu := { s.cpu with halted := false } } (lowestSource s.pendingInterrupts) := by
  simp only [State.pollAndService, if_neg hp, if_pos hime]

/-- With IME clear the poll wakes the CPU and does nothing else. -/
theorem State.pollAndService_of_not_ime {s : State} (hp : s.pendingInterrupts ≠ 0) (hime : s.cpu.ime = false) :
    s.pollAndService = { s with cpu := { s.cpu with halted := false } } := by
  simp only [State.pollAndService, if_neg hp, hime, Bool.false_eq_true, if_false]

/-- A poll with an enabled source flagged wakes the CPU whatever IME is: a dispatch leaves halted alone. -/
theorem State.pollAndService_halted {s : State} (hp : s.pendingInterrupts ≠ 0) :
    s.pollAndService.cpu.halted = false := by
  cases hime : s.cpu.ime with
  | true => rw [State.pollAndService_of_ime hp hime, State.takeInterrupt_cpu]
  | false => rw [State.pollAndService_of_not_ime hp hime]

end Sys2Proof.Machine

namespace Sys2Proof.Proofs
open Sys2Proof.Machine Sys2Proof.Forms

/-- Settles O43: NOP, HALT and DI write at most the CPU registers, STOP and EI by one condition each; a halted CPU
idles until the poll finds an enabled source flagged, which with IME clear does nothing but end the halt. -/
theorem systemResults : Obligations.SystemResults := by
  intro s d8
  have wakes (hp : s.pendingInterrupts ≠ 0) : s.pollAndService.cpu.halted = false ∧
      (s.cpu.ime = false → s.pollAndService.cpu.pc = s.cpu.pc) :=
    ⟨State.pollAndService_halted hp, fun hime => by rw [State.pollAndService_of_not_ime hp hime]⟩
  exact ⟨rfl, rfl, rfl, rfl, cpuStep_of_halted, wakes, rfl, execStop_eq_after d8 s, rfl, rfl, rfl, execEi_eq_after s⟩

end Sys2Proof.Proofs
end

section
/-! SUPPORT. A step without host calls goes on: every instruction that the fetch gives answers a next state, and so does
what is around it. -/

namespace Sys2Proof.Machine

/-- With nothing scheduled for the boundary the host's turn takes an empty list of calls off, at most. -/
theorem hostTurn_of_noHostCall {s : State} (h : s.noHostCall) : ∃ t, hostTurn s = .next t := by
  unfold hostTurn
  cases hs : s.hostSide.schedule with
  | nil => exact ⟨_, rfl⟩
  | cons cs rest =>
    obtain rfl : cs = [] := by simpa [State.noHostCall, hs] using h
    exact ⟨_, rfl⟩

/-- The fetch gives a well-formed instruction, which completes (R174). -/
theorem cpuStep_answers (s : State) : ∃ t, cpuStep s = .next t := by
  unfold cpuStep
  split
  · exact ⟨_, rfl⟩
  · have hwf : s.fetchInstr.1.wellFormed = true := s.fetchInstr_spec.1 ▸ decodeBytes_wellFormed _ _ _
    obtain ⟨t, ht, -⟩ := Proofs.everyInstructionCompletesAtItsCost s.fetchInstr.1 s.fetchInstr.2 (.inl hwf)
    exact ⟨t, ht⟩

theorem machineStep_answers (s : State) : ∃ t, machineStep s = .next t := by
  obtain ⟨t, ht⟩ := cpuStep_answers s.beginStep
  exact ⟨t.endStep, by rw [machineStep, ht, onNext]⟩

theorem frameTurn_answers (s : State) : ∃ t, frameTurn s = .next t := by
  unfold frameTurn
  split
  · exact machineStep_answers s.driverTurn
  · exact ⟨_, rfl⟩

end Sys2Proof.Machine

namespace Sys2Proof.Proofs
open Sys2Proof.Machine

/-- Settles O9: after an empty host's turn comes the driver's, which always answers. -/
theorem stepGoesOnWithoutHostCalls : Obligations.StepGoesOnWithoutHostCalls := by
  intro s h
  obtain ⟨s1, h1⟩ := hostTurn_of_noHostCall (s := { s with stepCycles := 0 }) h
  obtain ⟨t, ht⟩ := frameTurn_answers s1
  exact ⟨t, by rw [step, h1]; exact ht⟩

end Sys2Proof.Proofs
end

section
/-! SUPPORT. The bytes of MEM after a store to one of them, and the bits of a byte in which one was set or cleared. -/

namespace Sys2Proof.Machine
open Sys2Proof.Forms

/-! ### A byte of MEM -/

theorem State.mem_setMem (s : State) (a b : Nat) (v : Byte) :
    (s.setMem a v).mem b = if b = a then v else s.mem b := Store.read_write s.ram.mem a b v

@[simp] theorem State.mem_setMem_same (s : State) (a : Nat) (v : Byte) : (s.setMem a v).mem a = v := by
  simp [State.mem_setMem]

theorem State.mem_setMem_ne (s : State) {a b : Nat} (v : Byte) (h : b ≠ a) : (s.setMem a v).mem b = s.mem b := by
  simp [State.mem_setMem, h]

/-- A request sets its bit of IF and leaves every other byte (R57). -/
theorem State.mem_requestInterrupt (s : State) (i b : Nat) :
    (s.requestInterrupt i).mem b = if b = addrIf then setBit (s.mem addrIf) i else s.mem b := s.mem_setMem addrIf b _

theorem State.mem_requestInterrupt_ne (s : State) (i : Nat) {b : Nat} (h : b ≠ addrIf) :
    (s.requestInterrupt i).mem b = s.mem b := s.mem_setMem_ne _ h

/-! ### A bit of a byte -/

theorem bit_bitMask (i : Nat) {j : Nat} (hj : j < 8) : bit (bitMask i) j = decide (i = j) := by
  rw [bitMask, ← BitVec.twoPow_eq, bit, BitVec.getLsbD_twoPow, ← Bool.decide_and, decide_eq_decide]
  omega

theorem bit_setBit (v : Byte) (i : Nat) {j : Nat} (hj : j < 8) : bit (setBit v i) j = (bit v j || decide (i = j)) := by
  rw [bit, setBit, BitVec.getLsbD_or, ← bit, ← bit, bit_bitMask i hj]

theorem setBit_setBit (v : Byte) (i : Nat) : setBit (setBit v i) i = setBit v i := by
  rw [setBit, setBit, BitVec.or_assoc, BitVec.or_self]

end Sys2Proof.Machine
end

section
/-! SUPPORT. The joypad port: the bits of a read of P1 (R441). -/

namespace Sys2Proof.Machine

/-- Bit `i` of one line of buttons: 1 where the line is not selected, else the stored one. -/
theorem getLsbD_line {sel : Bool} {v : Byte} {i : Nat} (hi : i < 4) :
    (if sel then 0x0F#8 else v &&& 0x0F#8).getLsbD i = (sel || v.getLsbD i) := by
  have hmask : (0x0F#8).getLsbD i = true := by interval_cases i <;> rfl
  cases sel
  · simp [hmask]
  · simpa using hmask

/-- A bit of the low nibble is 0 exactly where a selected line has its button down (R441). -/
theorem State.joypadRead_getLsbD (s : State) {i : Nat} (hi : i < 4) : s.joypadRead.getLsbD i =
    ((bit (s.mem addrP1) 4 || s.controls.getLsbD i) && (bit (s.mem addrP1) 5 || s.controls.getLsbD (i + 4))) := by
  have hhigh : (0xC0#8).getLsbD i = false ∧ (0x30#8).getLsbD i = false ∧ (0x0F#8).getLsbD i = true := by
    interval_cases i <;> exact ⟨rfl, rfl, rfl⟩
  obtain ⟨hC, h3, hF⟩ := hhigh
  simp only [State.joypadRead, BitVec.getLsbD_or, BitVec.getLsbD_and, hC, h3, hF, getLsbD_line hi,
    BitVec.getLsbD_ushiftRight, Bool.and_false, Bool.false_or, Bool.true_and, Nat.add_comm 4]

/-- Bits 7 and 6 are 1, and bits 5 and 4 the stored ones (R441). -/
theorem State.joypadRead_getLsbD_high (s : State) {i : Nat} (hl : 4 ≤ i) (hh : i < 8) :
    s.joypadRead.getLsbD i = (decide (6 ≤ i) || bit (s.mem addrP1) i) := by
  have hmasks : (0xC0#8).getLsbD i = decide (6 ≤ i) ∧ (0x30#8).getLsbD i = !decide (6 ≤ i) ∧
      (0x0F#8).getLsbD i = false := by
    interval_cases i <;> exact ⟨rfl, rfl, rfl⟩
  obtain ⟨hC, h3, hF⟩ := hmasks
  simp only [State.joypadRead, BitVec.getLsbD_or, BitVec.getLsbD_and, hC, h3, hF, Bool.false_and, Bool.or_false, bit]
  cases decide (6 ≤ i) <;> simp

/-- Four bits set make the low nibble 15. -/
theorem toNat_mod_sixteen {v : Byte} (h : ∀ i, i < 4 → v.getLsbD i = true) : v.toNat % 16 = 15 := by
  have hv : v.setWidth 4 = BitVec.allOnes 4 := by
    ext i hi
    rw [BitVec.getElem_setWidth, h i hi, BitVec.getElem_allOnes]
  exact congrArg BitVec.toNat hv

end Sys2Proof.Machine

namespace Sys2Proof.Proofs
open Sys2Proof.Machine

/-- Settles O21: the high bits are read off the masks, the low ones are those of the selected lines. -/
theorem joypadReadBits : Obligations.JoypadReadBits := by
  intro s p v
  have low (s : State) {i : Nat} (hi : i < 4) := s.joypadRead_getLsbD hi
  have high {i : Nat} (hl : 4 ≤ i) (hh : i < 8) := s.joypadRead_getLsbD_high hl hh
  refine ⟨high (i := 7) (by decide) (by decide), high (i := 6) (by decide) (by decide),
    high (i := 5) (by decide) (by decide), high (i := 4) (by decide) (by decide), fun i hi => low s hi,
    fun h4 h5 => ?_, ?_⟩
  · exact toNat_mod_sixteen fun i hi => (low s hi).trans (by simp [bit, State.mem, p, h4, h5])
  · have up {i : Nat} (hi : i < 8) : s.releaseAll.controls.getLsbD i = true :=
      BitVec.getLsbD_allOnes.trans (decide_eq_true hi)
    exact toNat_mod_sixteen fun i hi => (low s.releaseAll hi).trans (by
      rw [up (by omega), up (by omega), Bool.or_true, Bool.or_true, Bool.and_self])

end Sys2Proof.Proofs
end

section
/-! SUPPORT. The poll and the end of an EI delay: the source that is dispatched, and what a dispatch leaves. -/

namespace Sys2Proof.Machine
open Sys2Proof.Forms

/-! ### The pending source of highest priority (R402) -/

/-- The lowest pending source is the first set bit of P. -/
theorem lowestSource_eq {p : Byte} {i : Nat} (hi : i < 5) (hp : p.getLsbD i = true)
    (hlow : ∀ j, j < i → p.getLsbD j = false) : lowestSource p = i := by
  have h0 := hlow 0
  have h1 := hlow 1
  have h2 := hlow 2
  have h3 := hlow 3
  interval_cases i <;> simp_all [lowestSource, bit]

theorem ne_zero_of_getLsbD {p : Byte} {i : Nat} (hp : p.getLsbD i = true) : p ≠ 0 := by
  rintro rfl
  simp at hp

/-! ### The dispatch (R405) -/

theorem State.setMem_withCpu (s : State) (c : Cpu) (a : Nat) (v : Byte) :
    State.setMem { s with cpu := c } a v = { s.setMem a v with cpu := c } := rfl

/-- An update of the CPU registers that the end of the instruction writes over. -/
theorem after_withCpu (s : State) (c d : Cpu) (n : Nat) : after { s with cpu := c } d n = after s d n := rfl

/-- A dispatch is a call of the vector with the flag bit, IME and ei_pending cleared. -/
theorem takeInterrupt_eq_afterCall (s : State) (i : Nat) : s.takeInterrupt i = afterCall
    { s.setMem addrIf (clearBit (s.mem addrIf) i) with cpu := { s.cpu with ime := false, eiPending := false } }
    (interruptVector i) s.params.intDispatchCycles := by
  rw [← callTo_addCycles]
  refine congrArg (State.addCycles _) ?_
  simp [State.push16_eq]

/-- The memory of a dispatch is written before its registers: IF, then the two bytes of PC. -/
theorem takeInterrupt_eq_after (s : State) (i : Nat) : s.takeInterrupt i = after
    (((s.setMem addrIf (clearBit (s.mem addrIf) i)).memWrite (s.cpu.sp - 1) (hiByte s.cpu.pc)).memWrite (s.cpu.sp - 2)
      (loByte s.cpu.pc))
    { s.cpu with ime := false, eiPending := false, sp := s.cpu.sp - 2, pc := interruptVector i }
    s.params.intDispatchCycles := by
  simp only [takeInterrupt_eq_afterCall, afterCall, State.memWrite_withCpu, after_withCpu]

/-- The end of an EI delay does nothing after a poll that dispatched (R406). -/
theorem State.commitEi_of_not_pending {s : State} (h : s.cpu.eiPending = false) : s.commitEi = s := by
  simp [State.commitEi, h]

theorem State.pollAndService_of_none {s : State} (hp : s.pendingInterrupts = 0) : s.pollAndService = s := if_pos hp

/-- With IME clear the poll only wakes the CPU, and the end of an EI delay then sets IME (R401, R406). -/
theorem State.beginStep_of_eiPending {s : State} (hime : s.cpu.ime = false) (hei : s.cpu.eiPending = true) :
    s.beginStep = { s with cpu := { s.cpu with
      ime := true, eiPending := false, halted := if s.pendingInterrupts = 0 then s.cpu.halted else false } } := by
  by_cases hp : s.pendingInterrupts = 0
  · rw [State.beginStep, State.pollAndService_of_none hp, State.commitEi, if_pos hei, if_pos hp]
  · rw [State.beginStep, State.pollAndService_of_not_ime hp hime, State.commitEi, if_pos hei, if_neg hp]

/-- With IME set and a source pending the step begins with the dispatch alone. -/
theorem State.beginStep_of_ime {s : State} (hp : s.pendingInterrupts ≠ 0) (hime : s.cpu.ime = true) :
    s.beginStep =
      State.takeInterrupt { s with cpu := { s.cpu with halted := false } } (lowestSource s.pendingInterrupts) := by
  rw [State.beginStep, State.pollAndService_of_ime hp hime, State.commitEi_of_not_pending]
  rw [State.takeInterrupt_cpu]

end Sys2Proof.Machine

namespace Sys2Proof.Proofs
open Sys2Proof.Machine Sys2Proof.Forms

/-- Settles O45: the poll is one of three cases, and the dispatch is of the first bit set in P. -/
theorem pollAndServiceCases : Obligations.PollAndServiceCases := by
  intro s p
  refine ⟨State.pollAndService_of_none, State.pollAndService_of_not_ime, fun i hi hbit hlow hime => ?_⟩
  have hsource : lowestSource s.pendingInterrupts = i := lowestSource_eq hi hbit hlow
  rw [State.pollAndService_of_ime (ne_zero_of_getLsbD hbit) hime, hsource, takeInterrupt_eq_after, clearBit_eq_byte]
  simp only [State.setMem_withCpu, State.memWrite_withCpu, after_withCpu]
  rfl

/-- Settles O47: EI sets one of two bits by EI_DELAY; a step begins with a poll of the old IME and then ends the delay;
DI, RETI and a dispatch leave ei_pending clear. -/
theorem eiTakesEffectOneInstructionLate : Obligations.EiTakesEffectOneInstructionLate := by
  intro s p
  refine ⟨fun hd => ?_, fun hd => ?_, State.beginStep_of_eiPending, fun hime hp => ?_, ⟨_, rfl, rfl, rfl⟩,
    ⟨_, execReti_eq_after s, rfl, rfl⟩, fun i => ?_⟩
  · exact (execEi_eq_after s).trans (by rw [if_pos hd])
  · exact (execEi_eq_after s).trans (by rw [hd]; rfl)
  · rw [State.beginStep_of_ime hp hime, State.takeInterrupt_cpu]
    exact ⟨rfl, rfl, rfl⟩
  · rw [State.takeInterrupt_cpu]

end Sys2Proof.Proofs
end

section
/-! SUPPORT. Plain memory: a read of a plain address gives what was last written there, and a write of one leaves the
others that it does not touch. -/

namespace Sys2Proof.Machine
open Sys2Proof.Forms

/-! ### The addresses -/

/-- A plain address is none of the ports with a rule of their own. -/
theorem plain_iff {p : Params} {a : Word} : plain p a = true ↔ 0x8000 ≤ a.toNat ∧ a.toNat ≠ addrP1 ∧ a.toNat ≠ addrDiv ∧
    a.toNat ≠ addrStat ∧ a.toNat ≠ addrLy ∧ (p.colorMode = .cgb →
      a.toNat ≠ addrKey1 ∧ a.toNat ≠ addrBcpd ∧ a.toNat ≠ addrOcpd) := by
  have hne (b : Word) : a ≠ b ↔ a.toNat ≠ b.toNat := not_congr BitVec.toNat_inj.symm
  have hmode : p.colorMode = .dmg ↔ ¬ p.colorMode = .cgb := by cases p.colorMode <;> simp
  simp only [plain, Bool.and_eq_true, Bool.or_eq_true, decide_eq_true_eq, hne, hmode, and_assoc, ← imp_iff_not_or]
  rfl

/-- What a read of a plain address gives: VRAM bank 1 or WRAM banks 2 to 7 where selected, else MEM (R105). -/
theorem State.memRead_of_plain {s : State} {a : Word} (h : plain s.params a = true) : s.memRead a =
    if a.toNat < 0xA000 ∧ s.vram1Selected = true then s.ram.vram1.read (a.toNat - 0x8000)
    else if 0xD000 ≤ a.toNat ∧ a.toNat < 0xE000 ∧ s.wramxSelected = true then
      s.ram.wramx.read (s.wramBank * 0x1000 + (a.toNat - 0xD000))
    else s.mem a.toNat := by
  obtain ⟨hl, hp1, hdiv, -, -, hcgb⟩ := plain_iff.mp h
  have hb : ¬ (s.isCgb = true ∧ a.toNat = addrBcpd) := fun ⟨hc, e⟩ => (hcgb (of_decide_eq_true hc)).2.1 e
  have ho : ¬ (s.isCgb = true ∧ a.toNat = addrOcpd) := fun ⟨hc, e⟩ => (hcgb (of_decide_eq_true hc)).2.2 e
  rw [State.memRead, if_neg (by omega), if_neg (by omega), if_neg hp1, if_neg hdiv, if_neg hb, if_neg ho]

/-! ### The store to MEM -/

/-- `t` is `s` with `v` stored at `a` of MEM, and OAM copied to where `a` is the DMA register (R106, R130). -/
structure StoresByte (s t : State) (a : Nat) (v : Byte) : Prop where
  params : t.params = s.params
  vram1 : t.ram.vram1 = s.ram.vram1
  wramx : t.ram.wramx = s.ram.wramx
  same : t.mem a = v
  other : ∀ b, b ≠ a → (a = addrDma → b < 0xFE00 ∨ 0xFEA0 ≤ b) → t.mem b = s.mem b

theorem storesByte_setMem (s : State) (a : Nat) (v : Byte) : StoresByte s (s.setMem a v) a v :=
  ⟨rfl, rfl, rfl, s.mem_setMem_same a v, fun _ hb _ => s.mem_setMem_ne v hb⟩

/-- OAM DMA writes MEM at the addresses it copies to and nowhere else in memory (R130). -/
theorem State.oamDmaFrom_ram (v : Byte) (left i : Nat) (s : State) :
    (State.oamDmaFrom v left i s).ram.vram1 = s.ram.vram1 ∧ (State.oamDmaFrom v left i s).ram.wramx = s.ram.wramx ∧
    ∀ b, b < 0xFE00 + i ∨ 0xFE00 + i + left ≤ b → (State.oamDmaFrom v left i s).mem b = s.mem b := by
  induction left generalizing i s with
  | zero => exact ⟨rfl, rfl, fun _ _ => rfl⟩
  | succ left ih =>
    have hread : (s.noteRead (cat v 0 + BitVec.ofNat 16 i)).ram = s.ram := s.noteRead_ram _
    obtain ⟨hvram, hwram, hmem⟩ := ih (i + 1) ((s.noteRead (cat v 0 + BitVec.ofNat 16 i)).setMem (0xFE00 + i)
      (s.memRead (cat v 0 + BitVec.ofNat 16 i)))
    refine ⟨hvram.trans (congrArg (fun r => r.vram1) hread), hwram.trans (congrArg (fun r => r.wramx) hread),
      fun b hb => ?_⟩
    calc _ = _ := hmem b (by omega)
      _ = (s.noteRead (cat v 0 + BitVec.ofNat 16 i)).mem b := State.mem_setMem_ne _ _ (by omega)
      _ = s.mem b := congrArg (fun r => r.mem.read b) hread

theorem storesByte_oamDma (s : State) (v : Byte) : StoresByte s ((s.setMem addrDma v).oamDma v) addrDma v := by
  obtain ⟨hvram, hwram, hmem⟩ := State.oamDmaFrom_ram v 160 0 (s.setMem addrDma v)
  refine ⟨?_, hvram, hwram, ?_, fun b hb hout => ?_⟩
  · obtain ⟨ram, draws, hframe⟩ := (s.setMem addrDma v).oamDma_frame v
    rw [hframe]
    rfl
  · exact (hmem addrDma (by decide)).trans (s.mem_setMem_same addrDma v)
  · exact (hmem b (hout rfl)).trans (s.mem_setMem_ne v hb)

/-- A write of a plain address that no bank window covers stores the byte in MEM (R106). -/
theorem storesByte_memWrite {s : State} {a : Word} (v : Byte) (h : plain s.params a = true)
    (hv : ¬ (a.toNat < 0xA000 ∧ s.vram1Selected = true))
    (hw : ¬ (0xD000 ≤ a.toNat ∧ a.toNat < 0xE000 ∧ s.wramxSelected = true)) :
    StoresByte s (s.memWrite a v) a.toNat v := by
  obtain ⟨hl, -, hdiv, hstat, hly, hcgb⟩ := plain_iff.mp h
  have hk : ¬ (s.isCgb = true ∧ a.toNat = addrKey1) := fun ⟨hc, e⟩ => (hcgb (of_decide_eq_true hc)).1 e
  have hb : ¬ (s.isCgb = true ∧ a.toNat = addrBcpd) := fun ⟨hc, e⟩ => (hcgb (of_decide_eq_true hc)).2.1 e
  have ho : ¬ (s.isCgb = true ∧ a.toNat = addrOcpd) := fun ⟨hc, e⟩ => (hcgb (of_decide_eq_true hc)).2.2 e
  rw [State.memWrite, if_neg (by omega), if_neg hv, if_neg hw, if_neg hdiv, if_neg hstat, if_neg hly, if_neg hk, if_neg hb,
    if_neg ho]
  split
  · obtain ⟨hparams, hvram, hwram, hsame, hother⟩ := storesByte_setMem s a.toNat v
    exact ⟨hparams, hvram, hwram, hsame, hother⟩
  split
  · next e => exact e ▸ storesByte_oamDma s v
  · exact storesByte_setMem s a.toNat v

namespace StoresByte

variable {s t : State} {a : Nat} {v : Byte}

theorem isCgb (h : StoresByte s t a v) : t.isCgb = s.isCgb := by rw [State.isCgb, State.isCgb, h.params]

/-- VRAM bank 1 stays selected or not but for a store to VBK, which DMG mode does not have. -/
theorem vram1Selected (h : StoresByte s t a v) (ha : s.params.colorMode = .cgb → a ≠ addrVbk) :
    t.vram1Selected = s.vram1Selected := by
  rw [State.vram1Selected, State.vram1Selected, h.isCgb]
  cases hc : s.isCgb with
  | false => rfl
  | true => rw [h.other addrVbk (ha (of_decide_eq_true hc)).symm fun _ => .inr (by decide)]

/-- The WRAM bank stays but for a store to SVBK, which DMG mode does not have. -/
theorem wramBank (h : StoresByte s t a v) (ha : a ≠ addrSvbk) : t.wramBank = s.wramBank := by
  rw [State.wramBank, State.wramBank, h.other addrSvbk ha.symm fun _ => .inr (by decide)]

theorem wramxSelected (h : StoresByte s t a v) (ha : s.params.colorMode = .cgb → a ≠ addrSvbk) :
    t.wramxSelected = s.wramxSelected := by
  rw [State.wramxSelected, State.wramxSelected, h.isCgb]
  cases hc : s.isCgb with
  | false => rfl
  | true => rw [h.wramBank (ha (of_decide_eq_true hc))]

end StoresByte

/-! ### Reads after a write -/

/-- A write in a selected bank window goes to the bank (R106). -/
theorem State.memWrite_vram1 {s : State} {a : Word} (v : Byte) (hl : 0x8000 ≤ a.toNat)
    (h : a.toNat < 0xA000 ∧ s.vram1Selected = true) :
    s.memWrite a v = { s with ram := { s.ram with vram1 := s.ram.vram1.write (a.toNat - 0x8000) v } } := by
  rw [State.memWrite, if_neg (by omega), if_pos h]

theorem State.memWrite_wramx {s : State} {a : Word} (v : Byte)
    (h : 0xD000 ≤ a.toNat ∧ a.toNat < 0xE000 ∧ s.wramxSelected = true) : s.memWrite a v = { s with ram := { s.ram with
      wramx := s.ram.wramx.write (s.wramBank * 0x1000 + (a.toNat - 0xD000)) v } } := by
  have hl := h.1
  rw [State.memWrite, if_neg (by omega), if_neg (by omega), if_pos h]

/-- A read after a write of a plain address gives the byte written (R105, R106). -/
theorem State.memRead_memWrite_same {s : State} {a : Word} (v : Byte) (h : plain s.params a = true) :
    (s.memWrite a v).memRead a = v := by
  have ht : plain (s.memWrite a v).params a = true := by rw [State.memWrite_params, h]
  obtain ⟨hl, -⟩ := plain_iff.mp h
  rw [State.memRead_of_plain ht]
  by_cases hv : a.toNat < 0xA000 ∧ s.vram1Selected = true
  · rw [State.memWrite_vram1 v hl hv]
    exact (if_pos hv).trans (Store.read_write_same ..)
  by_cases hx : 0xD000 ≤ a.toNat ∧ a.toNat < 0xE000 ∧ s.wramxSelected = true
  · rw [State.memWrite_wramx v hx]
    exact ((if_neg hv).trans (if_pos hx)).trans (Store.read_write_same ..)
  · have hs := storesByte_memWrite v h hv hx
    rw [if_neg, if_neg, hs.same]
    · rintro ⟨hl, hh, hsel⟩
      have hbank : a.toNat ≠ 0xFF70 := by omega
      exact hx ⟨hl, hh, hs.wramxSelected (fun _ => hbank) ▸ hsel⟩
    · rintro ⟨hh, hsel⟩
      have hbank : a.toNat ≠ 0xFF4F := by omega
      exact hv ⟨hh, hs.vram1Selected (fun _ => hbank) ▸ hsel⟩

/-- What a store at `a` from 0x8000 on does not touch: `a` itself, OAM behind the DMA register, and in CGB mode the
windows behind the bank registers (R107). -/
theorem not_touched {p : Params} {a b : Word} (ha : 0x8000 ≤ a.toNat) (h : touched p a b = false) :
    b.toNat ≠ a.toNat ∧ (a.toNat = 0xFF46 → b.toNat < 0xFE00 ∨ 0xFEA0 ≤ b.toNat) ∧
    (p.colorMode = .cgb → a.toNat = 0xFF4F → b.toNat < 0x8000 ∨ 0xA000 ≤ b.toNat) ∧
    (p.colorMode = .cgb → a.toNat = 0xFF70 → b.toNat < 0xD000 ∨ 0xE000 ≤ b.toNat) := by
  have port {n : Nat} (hn : n < 65536) (e : a.toNat = n) : a = BitVec.ofNat 16 n := by
    rw [← e, BitVec.ofNat_toNat, BitVec.setWidth_eq]
  rw [touched, if_neg (by omega), if_neg (by omega), if_neg (by omega)] at h
  have hne : b ≠ a := by
    rintro rfl
    rw [if_pos rfl] at h
    cases h
  rw [if_neg hne] at h
  refine ⟨fun e => hne (BitVec.eq_of_toNat_eq e), fun e => ?_, fun hc e => ?_, fun hc e => ?_⟩
  · simp [port (by decide) e] at h
    omega
  · simp [port (by decide) e, hc] at h
    omega
  · simp [port (by decide) e, hc] at h
    omega

/-- Of two plain addresses, a write of one leaves what the other reads where it does not touch it (R107). -/
theorem State.memRead_memWrite_of_not_touched {s : State} {a b : Word} (v : Byte) (ha : plain s.params a = true)
    (hb : plain s.params b = true) (h : touched s.params a b = false) : (s.memWrite a v).memRead b = s.memRead b := by
  have ht : plain (s.memWrite a v).params b = true := by rw [State.memWrite_params, hb]
  obtain ⟨hla, -⟩ := plain_iff.mp ha
  obtain ⟨hlb, -⟩ := plain_iff.mp hb
  obtain ⟨hne, hdma, hvbk, hsvbk⟩ := not_touched hla h
  rw [State.memRead_of_plain ht, State.memRead_of_plain hb]
  by_cases hv : a.toNat < 0xA000 ∧ s.vram1Selected = true
  · rw [State.memWrite_vram1 v hla hv]
    exact ite_congr rfl (fun _ => Store.read_write_ne _ _ (by omega)) fun _ => rfl
  by_cases hx : 0xD000 ≤ a.toNat ∧ a.toNat < 0xE000 ∧ s.wramxSelected = true
  · rw [State.memWrite_wramx v hx]
    exact ite_congr rfl (fun _ => rfl) fun _ =>
      ite_congr rfl (fun hb => Store.read_write_ne _ _ (by have := hb.1; omega)) fun _ => rfl
  · have hs := storesByte_memWrite v ha hv hx
    have hvram : (b.toNat < 0xA000 ∧ (s.memWrite a v).vram1Selected = true) ↔
        b.toNat < 0xA000 ∧ s.vram1Selected = true :=
      and_congr_right fun hin => by
        rw [hs.vram1Selected fun hc e => by have := hvbk hc e; omega]
    have hwram : (0xD000 ≤ b.toNat ∧ b.toNat < 0xE000 ∧ (s.memWrite a v).wramxSelected = true) ↔
        0xD000 ≤ b.toNat ∧ b.toNat < 0xE000 ∧ s.wramxSelected = true :=
      and_congr_right fun hin => and_congr_right fun hin' => by
        rw [hs.wramxSelected fun hc e => by have := hsvbk hc e; omega]
    refine ite_congr (propext hvram) (fun _ => by rw [hs.vram1]) fun _ => ite_congr (propext hwram) ?_
      fun _ => hs.other _ hne hdma
    rintro ⟨hin, hin', hsel⟩
    have hcgb : s.params.colorMode = .cgb := by
      simp only [State.wramxSelected, Bool.and_eq_true, State.isCgb, decide_eq_true_eq] at hsel
      exact hsel.1
    rw [hs.wramx, hs.wramBank fun e => by have := hsvbk hcgb e; omega]

/-- PC pushed to two plain slots is read back from them (R12). -/
theorem State.memRead_push {s : State} (lo hi : Byte) {a b : Word} (ha : plain s.params a = true)
    (hb : plain s.params b = true) (h : touched s.params b a = false) :
    ((s.memWrite a hi).memWrite b lo).memRead a = hi ∧ ((s.memWrite a hi).memWrite b lo).memRead b = lo := by
  have hp : (s.memWrite a hi).params = s.params := s.memWrite_params a hi
  refine ⟨?_, State.memRead_memWrite_same lo (by rw [hp, hb])⟩
  rw [State.memRead_memWrite_of_not_touched lo (by rw [hp, hb]) (by rw [hp, ha]) (by rw [hp, h])]
  exact State.memRead_memWrite_same hi ha

end Sys2Proof.Machine

namespace Sys2Proof.Proofs
open Sys2Proof.Machine Sys2Proof.Forms

/-- Settles O46: RETI reads PC back from the two slots that the dispatch wrote it to. -/
theorem interruptReturnResumes : Obligations.InterruptReturnResumes := by
  intro s t i hhi hlo htouch hret
  obtain ⟨readHi, readLo⟩ := State.memRead_push (s := s.setMem addrIf (clearBit (s.mem addrIf) i)) (loByte s.cpu.pc)
    (hiByte s.cpu.pc) hhi hlo htouch
  have hread (a : Word) : (s.takeInterrupt i).memRead a =
      (((s.setMem addrIf (clearBit (s.mem addrIf) i)).memWrite (s.cpu.sp - 1) (hiByte s.cpu.pc)).memWrite (s.cpu.sp - 2)
        (loByte s.cpu.pc)).memRead a := by
    rw [takeInterrupt_eq_after]
    exact State.memRead_congr a rfl rfl rfl rfl rfl (.inl rfl)
  have hsp : s.cpu.sp - 2 + 1 = s.cpu.sp - 1 := by bv_omega
  have ht : t = after (((s.takeInterrupt i).noteRead (s.takeInterrupt i).cpu.sp).noteRead ((s.takeInterrupt i).cpu.sp + 1))
      { returnedCpu (s.takeInterrupt i) with ime := true, eiPending := false } 16 :=
    (Host.Outcome.next.inj ((execReti_eq_after _).symm.trans hret)).symm
  rw [ht, after, returnedCpu, State.takeInterrupt_cpu, hread, hread, hsp, readHi, readLo, cat_hiByte_loByte,
    BitVec.sub_add_cancel]

end Sys2Proof.Proofs
end

section
/-! SUPPORT. The timer: what `n` increments of TIMA leave, and a tick as those increments and one write of the timer's
registers. -/

namespace Sys2Proof.Machine
open Sys2Proof.Forms

/-! ### The increments of TIMA (R433) -/

theorem State.timaIncrement_frame (s : State) : ∃ m, s.timaIncrement = { s with ram := { s.ram with mem := m } } := by
  unfold State.timaIncrement
  split <;> exact ⟨_, rfl⟩

/-- Increments change MEM and nothing else. -/
theorem State.timaIncrements_frame (n : Nat) (s : State) :
    ∃ m, State.timaIncrements n s = { s with ram := { s.ram with mem := m } } := by
  induction n generalizing s with
  | zero => exact ⟨s.ram.mem, rfl⟩
  | succ n ih =>
    obtain ⟨m1, h1⟩ := s.timaIncrement_frame
    obtain ⟨m, h⟩ := ih { s with ram := { s.ram with mem := m1 } }
    exact ⟨m, by rw [State.timaIncrements, h1, h]⟩

theorem State.timaIncrement_withTimer (s : State) (t : Timer) :
    State.timaIncrement { s with timer := t } = { s.timaIncrement with timer := t } := by
  by_cases h : s.mem addrTima = 0xFF#8
  · exact (if_pos h).trans (by rw [State.timaIncrement, if_pos h]; rfl)
  · exact (if_neg h).trans (by rw [State.timaIncrement, if_neg h]; rfl)

/-- Increments look at MEM alone, not at the timer's registers. -/
theorem State.timaIncrements_withTimer (n : Nat) (s : State) (t : Timer) :
    State.timaIncrements n { s with timer := t } = { State.timaIncrements n s with timer := t } := by
  induction n generalizing s with
  | zero => rfl
  | succ n ih => rw [State.timaIncrements, State.timaIncrements, State.timaIncrement_withTimer, ih]

theorem State.timaIncrements_add (m n : Nat) (s : State) :
    State.timaIncrements (m + n) s = State.timaIncrements n (State.timaIncrements m s) := by
  induction m generalizing s with
  | zero => rw [Nat.zero_add]; rfl
  | succ m ih => rw [Nat.succ_add, State.timaIncrements, ih, State.timaIncrements]

/-- Below 0xFF an increment counts one up and requests nothing. -/
theorem State.timaIncrement_of_lt {s : State} (h : (s.mem addrTima).toNat < 255) :
    (s.timaIncrement.mem addrTima).toNat = (s.mem addrTima).toNat + 1 ∧ s.timaIncrement.mem addrIf = s.mem addrIf := by
  have hstep : s.timaIncrement = s.setMem addrTima (s.mem addrTima + 1) := by
    refine if_neg fun e => ?_
    rw [e] at h
    exact absurd h (by decide)
  rw [hstep, State.mem_setMem_same, State.mem_setMem_ne _ _ (by decide)]
  exact ⟨by bv_omega, rfl⟩

/-- At 0xFF an increment reloads TIMA from TMA and requests the timer's interrupt. -/
theorem State.timaIncrement_of_full {s : State} (h : (s.mem addrTima).toNat = 255) :
    s.timaIncrement.mem addrTima = s.mem addrTma ∧ s.timaIncrement.mem addrIf = setBit (s.mem addrIf) 2 := by
  have hstep : s.timaIncrement = (s.setMem addrTima (s.mem addrTma)).requestInterrupt 2 :=
    if_pos (BitVec.eq_of_toNat_eq h)
  rw [hstep, State.mem_requestInterrupt_ne _ _ (by decide), State.mem_setMem_same, State.mem_requestInterrupt, if_pos rfl,
    State.mem_setMem_ne _ _ (by decide)]
  exact ⟨rfl, rfl⟩

theorem State.timaIncrement_mem (s : State) {k : Nat} (hk : k ≠ addrTima) (hk' : k ≠ addrIf) :
    s.timaIncrement.mem k = s.mem k := by
  unfold State.timaIncrement
  split
  · rw [State.mem_requestInterrupt_ne _ _ hk', State.mem_setMem_ne _ _ hk]
  · rw [State.mem_setMem_ne _ _ hk]

/-- Increments leave every byte but TIMA and IF. -/
theorem State.timaIncrements_mem (n : Nat) (s : State) {k : Nat} (hk : k ≠ addrTima) (hk' : k ≠ addrIf) :
    (State.timaIncrements n s).mem k = s.mem k := by
  induction n generalizing s with
  | zero => rfl
  | succ n ih => exact (ih s.timaIncrement).trans (s.timaIncrement_mem hk hk')

/-- While TIMA does not pass 0xFF it counts up and requests nothing. -/
theorem State.timaIncrements_of_lt {n : Nat} {s : State} (h : (s.mem addrTima).toNat + n < 256) :
    ((State.timaIncrements n s).mem addrTima).toNat = (s.mem addrTima).toNat + n ∧
    (State.timaIncrements n s).mem addrIf = s.mem addrIf := by
  induction n generalizing s with
  | zero => exact ⟨rfl, rfl⟩
  | succ n ih =>
    obtain ⟨htima, hif⟩ := State.timaIncrement_of_lt (s := s) (by omega)
    obtain ⟨hcount, hflag⟩ := ih (s := s.timaIncrement) (by omega)
    exact ⟨hcount.trans (by omega), hflag.trans hif⟩

/-- Counting from the reload value `x`, the first pass past 0xFF takes off one whole span. -/
theorem sub_mod_span {x n : Nat} (hx : x < 256) (h : 256 ≤ x + n) : (x + n - 256) % (256 - x) = n % (256 - x) := by
  have hspan : x + n - 256 = n - (256 - x) := by omega
  rw [hspan, ← Nat.mod_eq_sub_mod (by omega)]

/-- Past 0xFF TIMA counts modulo the span from TMA, and the timer's request is made. -/
theorem State.timaIncrements_of_le {n : Nat} {s : State} (h : 256 ≤ (s.mem addrTima).toNat + n) :
    ((State.timaIncrements n s).mem addrTima).toNat =
      (s.mem addrTma).toNat + ((s.mem addrTima).toNat + n - 256) % (256 - (s.mem addrTma).toNat) ∧
    (State.timaIncrements n s).mem addrIf = setBit (s.mem addrIf) 2 := by
  induction n generalizing s with
  | zero => omega
  | succ n ih =>
    have htma : s.timaIncrement.mem addrTma = s.mem addrTma := s.timaIncrement_mem (by decide) (by decide)
    have hlt := (s.mem addrTma).isLt
    rw [State.timaIncrements]
    by_cases hfull : (s.mem addrTima).toNat = 255
    · obtain ⟨htima, hif⟩ := State.timaIncrement_of_full hfull
      have hleft : (s.mem addrTima).toNat + (n + 1) - 256 = n := by omega
      rw [hleft]
      by_cases hn : (s.mem addrTma).toNat + n < 256
      · obtain ⟨hcount, hflag⟩ := State.timaIncrements_of_lt (s := s.timaIncrement) (n := n) (by rw [htima]; exact hn)
        rw [hcount, hflag, htima, hif, Nat.mod_eq_of_lt (by omega)]
        exact ⟨rfl, rfl⟩
      · obtain ⟨hcount, hflag⟩ := ih (s := s.timaIncrement) (by rw [htima]; omega)
        rw [hcount, hflag, htma, htima, hif, setBit_setBit, sub_mod_span hlt (by omega)]
        exact ⟨rfl, rfl⟩
    · have hx := (s.mem addrTima).isLt
      obtain ⟨htima, hif⟩ := State.timaIncrement_of_lt (s := s) (by omega)
      obtain ⟨hcount, hflag⟩ := ih (s := s.timaIncrement) (by omega)
      rw [hcount, hflag, htma, htima, hif, Nat.add_assoc, Nat.add_comm 1]
      exact ⟨rfl, rfl⟩

/-! ### A tick (R430) -/

/-- The timer's registers after a tick of `c` cycles with TAC bit 2 set. -/
def State.tickedTimer (s : State) (c : Nat) : Timer where
  div := s.timer.div + BitVec.ofNat 8 ((s.timer.divAcc + c) / 256)
  divAcc := (s.timer.divAcc + c) % 256
  timaAcc := (s.timer.timaAcc + c) % timaPeriod (s.mem addrTac)

theorem State.tick_of_stopped {s : State} (h : bit (s.mem addrTac) 2 = false) (c : Nat) : s.tick c = s.tickDiv c :=
  if_neg (Bool.eq_false_iff.mp h)

/-- With TAC bit 2 set a tick is one increment of TIMA a period, and one write of the timer's registers. -/
theorem State.tick_of_running {s : State} (h : bit (s.mem addrTac) 2 = true) (c : Nat) : s.tick c =
    { State.timaIncrements ((s.timer.timaAcc + c) / timaPeriod (s.mem addrTac)) s with timer := s.tickedTimer c } := by
  rw [← State.timaIncrements_withTimer]
  exact if_pos h

theorem State.tick_div (s : State) (c : Nat) : (s.tick c).timer.divAcc = (s.timer.divAcc + c) % 256 ∧
    (s.tick c).timer.div = s.timer.div + BitVec.ofNat 8 ((s.timer.divAcc + c) / 256) := by
  cases h : bit (s.mem addrTac) 2 with
  | false => rw [State.tick_of_stopped h]; exact ⟨rfl, rfl⟩
  | true => rw [State.tick_of_running h]; exact ⟨rfl, rfl⟩

/-- Whole periods and the rest, counted in two parts. -/
theorem div_add_div_mod (x a b p : Nat) (hp : 0 < p) :
    (x + a) / p + ((x + a) % p + b) / p = (x + (a + b)) / p := by
  have h : x + (a + b) = (x + a) % p + b + p * ((x + a) / p) := by
    have := Nat.mod_add_div (x + a) p
    omega
  rw [h, Nat.add_mul_div_left _ _ hp, Nat.add_comm]

theorem mod_add_mod_add (x a b p : Nat) : ((x + a) % p + b) % p = (x + (a + b)) % p := by
  rw [Nat.mod_add_mod, Nat.add_assoc]

theorem add_ofNat_div (d : Byte) (x a b : Nat) :
    d + BitVec.ofNat 8 ((x + a) / 256) + BitVec.ofNat 8 (((x + a) % 256 + b) / 256) =
      d + BitVec.ofNat 8 ((x + (a + b)) / 256) := by
  rw [BitVec.add_assoc, ← BitVec.ofNat_add, div_add_div_mod _ _ _ _ (by decide)]

theorem State.tickDiv_tickDiv (s : State) (a b : Nat) : (s.tickDiv a).tickDiv b = s.tickDiv (a + b) := by
  simp only [State.tickDiv, mod_add_mod_add, add_ofNat_div]

/-- Ticks add up (R436). -/
theorem State.tick_tick (s : State) (a b : Nat) : (s.tick a).tick b = s.tick (a + b) := by
  cases h : bit (s.mem addrTac) 2 with
  | false =>
    have h1 : bit ((s.tickDiv a).mem addrTac) 2 = false := h
    rw [State.tick_of_stopped h, State.tick_of_stopped h, State.tick_of_stopped h1, State.tickDiv_tickDiv]
  | true =>
    have htac : (s.tick a).mem addrTac = s.mem addrTac := by
      rw [State.tick_of_running h]
      exact State.timaIncrements_mem _ s (by decide) (by decide)
    have h1 : bit ((s.tick a).mem addrTac) 2 = true := htac ▸ h
    have hacc : (s.tick a).timer = s.tickedTimer a := by rw [State.tick_of_running h]
    have htimer : (s.tick a).tickedTimer b = s.tickedTimer (a + b) := by
      simp only [State.tickedTimer, htac, hacc, mod_add_mod_add, add_ofNat_div]
    rw [State.tick_of_running h1, htimer, htac, hacc, State.tick_of_running h, State.tick_of_running h,
      State.timaIncrements_withTimer, ← State.timaIncrements_add]
    simp only [State.tickedTimer, div_add_div_mod _ _ _ _ (timaPeriod_pos _).1]

/-- The period of R432 as the statements list it. -/
theorem timaPeriod_eq_getD (tac : Byte) : timaPeriod tac = [1024, 16, 64, 256].getD (tac.toNat % 4) 0 := by
  have h : tac.toNat % 4 < 4 := Nat.mod_lt _ (by decide)
  unfold timaPeriod
  interval_cases tac.toNat % 4 <;> rfl

end Sys2Proof.Machine

namespace Sys2Proof.Proofs
open Sys2Proof.Machine Sys2Proof.Forms

/-- Settles O49: ticks add up; a tick is the count of DIV, and with TAC bit 2 clear nothing more. -/
theorem timerDoesNotDependOnSplit : Obligations.TimerDoesNotDependOnSplit := by
  intro s a b
  refine ⟨s.tick_tick a b, ?_, fun h => ?_⟩
  · rw [(s.tick_div a).2, BitVec.toNat_add, BitVec.toNat_ofNat, Nat.add_mod_mod]
  · rw [State.tick_of_stopped h]
    exact ⟨rfl, rfl⟩

/-- Settles O50: the whole periods of a tick are so many increments of TIMA, which overflow or not. -/
theorem timerTickResults : Obligations.TimerTickResults := by
  intro s c t tac period n x tma
  have hperiod : timaPeriod tac = period := timaPeriod_eq_getD tac
  refine ⟨(s.tick_div c).1, ?_, fun h => ?_, fun h => ?_⟩
  · rw [(s.tick_div c).2, byte, BitVec.ofNat_add, BitVec.ofNat_toNat, BitVec.setWidth_eq]
  · have ht : t = s.tickDiv c := State.tick_of_stopped h c
    rw [ht]
    rfl
  · have ht : t = { State.timaIncrements n s with timer := s.tickedTimer c } :=
      (State.tick_of_running h c).trans (by rw [hperiod])
    have hmem (k : Nat) : t.mem k = (State.timaIncrements n s).mem k := by rw [ht]; rfl
    obtain ⟨m, hframe⟩ := State.timaIncrements_frame n s
    refine ⟨?_, fun hlt => ?_, fun hle => ?_, fun k hk hk' => ?_, ?_⟩
    · rw [ht]
      exact congrArg ((s.timer.timaAcc + c) % ·) hperiod
    · rw [hmem, hmem]
      exact State.timaIncrements_of_lt hlt
    · rw [hmem, hmem]
      exact State.timaIncrements_of_le hle
    · rw [hmem, State.timaIncrements_mem n s hk hk']
    · rw [ht, hframe]

end Sys2Proof.Proofs
end

section
/-! SUPPORT. LY and the modes: each byte of MEM that SetLY and SetMode leave, and the requests they make. -/

namespace Sys2Proof.Machine
open Sys2Proof.Forms

/-! ### SetLY (R451) -/

/-- A request made where `c` holds changes IF there and nothing else. -/
theorem State.mem_ite_requestInterrupt (s : State) (c : Prop) [Decidable c] (i k : Nat) :
    (if c then s.requestInterrupt i else s).mem k =
      if k = addrIf then (if c then setBit (s.mem addrIf) i else s.mem addrIf) else s.mem k := by
  split
  · exact s.mem_requestInterrupt i k
  · split
    · next e => rw [e]
    · rfl

/-- SetLY writes LY and the coincidence flag, and makes a request where the line matches with STAT bit 6 set. -/
theorem State.setLY_eq (s : State) (l : Nat) : s.setLY l =
    let hit := byte l = s.mem addrLyc
    let t := (s.setMem addrLy (byte l)).setMem addrStat
      (if hit then setBit (s.mem addrStat) 2 else clearBit (s.mem addrStat) 2)
    if hit ∧ bit (s.mem addrStat) 6 = true then t.requestInterrupt 1 else t := by
  have hlyc : (s.setMem addrLy (byte l)).mem addrLyc = s.mem addrLyc := s.mem_setMem_ne _ (by decide)
  have hstat : (s.setMem addrLy (byte l)).mem addrStat = s.mem addrStat := s.mem_setMem_ne _ (by decide)
  have hsix : bit (setBit (s.mem addrStat) 2) 6 = bit (s.mem addrStat) 6 := by simp [bit_setBit]
  unfold State.setLY
  dsimp only
  rw [← byte, hlyc, hstat, State.mem_setMem_same, hsix]
  by_cases hit : byte l = s.mem addrLyc
  · simp only [hit, true_and, if_true]
  · simp only [hit, false_and, if_false]

theorem State.mem_setLY (s : State) (l k : Nat) : (s.setLY l).mem k =
    if k = 0xFF44 then byte l
    else if k = 0xFF41 then
      (if byte l = s.mem addrLyc then setBit (s.mem addrStat) 2 else clearBit (s.mem addrStat) 2)
    else if k = 0xFF0F then
      (if byte l = s.mem addrLyc ∧ bit (s.mem addrStat) 6 = true then setBit (s.mem addrIf) 1 else s.mem addrIf)
    else s.mem k := by
  rw [State.setLY_eq, State.mem_ite_requestInterrupt]
  simp only [State.mem_setMem]
  grind

/-! ### SetMode (R452) -/

/-- The mode bits are bits 1 and 0 of STAT: those above stay. -/
theorem bit_modeBits (v : Byte) (m : BitVec 2) {j : Nat} (hl : 2 ≤ j) (hh : j < 8) :
    bit ((v &&& 0xFC#8) ||| m.setWidth 8) j = bit v j := by
  have hmask : (0xFC#8).getLsbD j = true := by interval_cases j <;> rfl
  have hmode : (m.setWidth 8).getLsbD j = false := by
    rw [BitVec.getLsbD_setWidth, BitVec.getLsbD_of_ge m j hl, Bool.and_false]
  rw [bit, BitVec.getLsbD_or, BitVec.getLsbD_and, hmask, hmode, Bool.and_true, Bool.or_false, bit]

theorem modeBits_eq_byte (v : Byte) (m : BitVec 2) :
    (v &&& 0xFC#8) ||| m.setWidth 8 = byte (v.toNat / 4 * 4 + m.toNat) := by
  have hhigh : (v &&& 0xFC#8).toNat = 4 * (v.toNat / 4) := by
    revert v
    decide
  have hmode : (m.setWidth 8).toNat = m.toNat := by
    rw [BitVec.toNat_setWidth]
    exact Nat.mod_eq_of_lt (by omega)
  rw [eq_byte_toNat (_ ||| _), or_toNat_of_lt (k := 2) hhigh (by omega), hhigh, hmode, Nat.mul_comm]

theorem State.mem_putMode (s : State) (m : BitVec 2) (k : Nat) : (s.putMode m).mem k =
    if k = addrStat then byte ((s.mem addrStat).toNat / 4 * 4 + m.toNat) else s.mem k := by
  rw [← modeBits_eq_byte]
  exact s.mem_setMem addrStat k _

/-- SetMode is the mode bits, and a request where STAT_MODE_IRQ and the mode's STAT bit ask for it. -/
theorem State.setMode_eq (s : State) (m : BitVec 2) : s.setMode m =
    if s.params.statModeIrq && decide (m ≠ 3) && bit (s.mem addrStat) (3 + m.toNat) then (s.putMode m).requestInterrupt 1
    else s.putMode m := by
  have hstat : (s.putMode m).mem addrStat = (s.mem addrStat &&& 0xFC#8) ||| m.setWidth 8 := s.mem_setMem_same addrStat _
  unfold State.setMode
  dsimp only
  rw [State.putMode_params, hstat]
  by_cases hm : m = 3
  · simp only [hm, ne_eq, not_true_eq_false, decide_false, Bool.and_false, Bool.false_and]
  · rw [bit_modeBits _ _ (by omega) (by bv_omega)]

theorem State.mem_setMode (s : State) (m : BitVec 2) (k : Nat) : (s.setMode m).mem k =
    if k = 0xFF41 then byte ((s.mem addrStat).toNat / 4 * 4 + m.toNat)
    else if k = 0xFF0F then
      (if s.params.statModeIrq && decide (m ≠ 3) && bit (s.mem addrStat) (3 + m.toNat) then setBit (s.mem addrIf) 1
      else s.mem addrIf)
    else s.mem k := by
  rw [State.setMode_eq, State.mem_ite_requestInterrupt]
  simp only [State.mem_putMode]
  grind

end Sys2Proof.Machine

namespace Sys2Proof.Proofs
open Sys2Proof.Machine Sys2Proof.Forms

/-- Settles O51: SetLY and SetMode are at most three writes of MEM, whose values are read off the byte before. -/
theorem lineAndModeUpdates : Obligations.LineAndModeUpdates := by
  intro s
  constructor
  · intro l hl t hit stat k
    have hmatch : byte l = s.mem addrLyc ↔ l = (s.mem addrLyc).toNat := by
      unfold byte
      bv_omega
    have hstat : byte stat =
        if byte l = s.mem addrLyc then setBit (s.mem addrStat) 2 else clearBit (s.mem addrStat) 2 := by
      simp only [stat, hit, hmatch, setBit_eq_byte, clearBit_eq_byte, decide_eq_true_eq]
      exact apply_ite byte ..
    rw [hstat]
    simp only [hit, Bool.and_eq_true, decide_eq_true_eq, ← hmatch]
    exact s.mem_setLY l k
  · intro m t
    refine ⟨?_, s.mem_setMode m⟩
    simp only [t, State.setMode_eq]
    split <;> rfl

end Sys2Proof.Proofs
end

section
/-! SUPPORT. The render of a line: the cells of FB that mode-3 entry writes, and what it leaves of MEM. -/

namespace Sys2Proof.Machine
open Sys2Proof.Forms

/-! ### The render of a line (R453) -/

/-- Mode 3 makes no request (R452). -/
theorem State.setMode_three (s : State) : s.setMode 3 = s.putMode 3 := by
  rw [State.setMode_eq, if_neg]
  simp

/-- The cells of FB that the render of line `l` writes, a pixel a column. -/
def State.lineCells (s : State) (l : Nat) : Store 15 := (List.range 160).map fun px => (fbIndex l px, s.pixel px l)

theorem State.renderLine_fb_eq (s : State) (l : Nat) :
    (s.renderLine l).ppu.fb = (s.lineCells l).foldl (fun m c => m.write c.1 c.2) s.ppu.fb := by
  rw [State.lineCells, List.foldl_map, State.renderLine]

theorem State.lineCells_nodup (s : State) (l : Nat) : ((s.lineCells l).map Prod.fst).Nodup := by
  have hinj : Function.Injective (fbIndex l) := fun _ _ h => Nat.add_left_cancel h
  have hcells : (s.lineCells l).map Prod.fst = (List.range 160).map (fbIndex l) := List.map_map
  rw [hcells]
  exact List.nodup_range.map hinj

/-- Of FB, the render of line `l` writes that line and leaves the others. -/
theorem State.renderLine_fb (s : State) (l k : Nat) {px : Nat} (hpx : px < 160) :
    (s.renderLine l).ppu.fb.read (160 * k + px) = if k = l then s.pixel px l else s.ppu.fb.read (160 * k + px) := by
  rw [State.renderLine_fb_eq]
  split
  case isTrue hk =>
    have hmem : (fbIndex l px, s.pixel px l) ∈ s.lineCells l := List.mem_map_of_mem (List.mem_range.mpr hpx)
    rw [hk]
    exact Store.read_foldl_write_of_mem _ (s.lineCells_nodup l) hmem
  case isFalse hk =>
    refine Store.read_foldl_write_of_notMem _ fun c hc => ?_
    obtain ⟨x, hx, rfl⟩ := List.mem_map.mp hc
    have hx := List.mem_range.mp hx
    show 160 * k + px ≠ 160 * l + x
    omega

end Sys2Proof.Machine

namespace Sys2Proof.Proofs
open Sys2Proof.Machine Sys2Proof.Forms

/-- Settles O52: mode 3 writes STAT alone of MEM, then the snapshot is taken and the one line rendered. -/
theorem lineIsRenderedAtModeThreeEntry : Obligations.LineIsRenderedAtModeThreeEntry := by
  intro s l hl t u
  have hu : u = (s.putMode 3).takeSnapshot := by rw [← State.setMode_three]
  have hmem (a : Nat) (ha : a ≠ 0xFF41) : (s.putMode 3).mem a = s.mem a := (s.mem_putMode 3 a).trans (if_neg ha)
  have ht : t = (u.renderLine l).startBudget (.transfer l) 172 := rfl
  refine ⟨?_, rfl, fun k px hpx => ?_, fun a ha => ?_, ?_, rfl, ?_⟩
  · rw [hu, ← hmem 0xFF43 (by decide), ← hmem 0xFF42 (by decide), ← hmem 0xFF4B (by decide), ← hmem 0xFF4A (by decide)]
    rfl
  · have hmode : u.pixel px l = if s.params.colorMode = .cgb then u.cgbPixel px l else u.dmgPixel px l := by
      rw [State.pixel, State.isCgb, hu]
      simp only [decide_eq_true_eq]
      rfl
    rw [← hmode, ht, State.startBudget_ppu, State.renderLine_fb u l k hpx, hu]
    rfl
  · rw [ht, hu]
    exact hmem a ha
  · rw [ht, hu]
    rfl
  · rw [ht, hu]
    rfl

end Sys2Proof.Proofs
end

section
/-! SUPPORT. The transitions of the frame driver: the position, the budget, LY and the mode that each enters with, and the
requests that it makes. -/

namespace Sys2Proof.Machine
open Sys2Proof.Forms

/-! ### What SetLY and SetMode leave -/

@[simp] theorem State.setLY_cpu (s : State) (l : Nat) : (s.setLY l).cpu = s.cpu := by
  simp only [State.setLY_eq]
  split <;> rfl

@[simp] theorem State.setLY_ppu (s : State) (l : Nat) : (s.setLY l).ppu = s.ppu := by
  simp only [State.setLY_eq]
  split <;> rfl

@[simp] theorem State.setMode_cpu (s : State) (m : BitVec 2) : (s.setMode m).cpu = s.cpu := by
  rw [State.setMode_eq]
  split <;> rfl

@[simp] theorem State.setMode_ppu (s : State) (m : BitVec 2) : (s.setMode m).ppu = { s.ppu with mode := m } := by
  rw [State.setMode_eq]
  split <;> rfl

theorem State.setLY_ly (s : State) (l : Nat) : (s.setLY l).mem addrLy = byte l := (s.mem_setLY l addrLy).trans (if_pos rfl)

theorem State.setMode_ly (s : State) (m : BitVec 2) : (s.setMode m).mem addrLy = s.mem addrLy :=
  (s.mem_setMode m addrLy).trans (by simp)

/-- Bits 1 and 0 of a byte whose other bits count in fours. -/
theorem modeBits_mod_four (v : Byte) (m : BitVec 2) : (byte (v.toNat / 4 * 4 + m.toNat)).toNat % 4 = m.toNat := by
  unfold byte
  bv_omega

theorem State.setMode_stat (s : State) (m : BitVec 2) : ((s.setMode m).mem addrStat).toNat % 4 = m.toNat := by
  rw [State.mem_setMode, if_pos rfl, modeBits_mod_four]

/-- LCD STAT's request leaves the V-blank bit of IF. -/
theorem bit_zero_requestStat (v : Byte) (c : Prop) [Decidable c] : bit (if c then setBit v 1 else v) 0 = bit v 0 := by
  split
  · rw [bit_setBit v 1 (by decide), decide_eq_false (by decide), Bool.or_false]
  · rfl

theorem State.setLY_if (s : State) (l : Nat) : bit ((s.setLY l).mem addrIf) 0 = bit (s.mem addrIf) 0 := by
  rw [State.mem_setLY, if_neg (by decide), if_neg (by decide), if_pos rfl, bit_zero_requestStat]

theorem State.setMode_if (s : State) (m : BitVec 2) : bit ((s.setMode m).mem addrIf) 0 = bit (s.mem addrIf) 0 := by
  rw [State.mem_setMode, if_neg (by decide), if_pos rfl, bit_zero_requestStat]

/-! ### The transitions (R471) -/

/-- `t` is `s` after the transition to a position, with its budget, the LY that it sets (if any) and its mode: the V-blank
request is made on line 144 alone, and an idle line makes no request. -/
structure Enters (s t : State) (p : Phase) (budget : Int) (line : Option Nat) (m : Nat) : Prop where
  phase : t.driver.phase = p
  balance : t.driver.cycleBalance = s.driver.cycleBalance + budget
  frames : t.driver.framesDone = s.driver.framesDone
  ly : ∀ l, line = some l → t.mem addrLy = byte l
  stat : (t.mem addrStat).toNat % 4 = m
  mode : t.ppu.mode.toNat = m
  vblank : bit (t.mem addrIf) 0 = (decide (p = .vblank 144) || bit (s.mem addrIf) 0)
  idle : ∀ k, p = .idle k → t.mem addrIf = s.mem addrIf ∧ t.ppu.fb = s.ppu.fb
  cpu : t.cpu = s.cpu

theorem State.startLine_enters (s : State) (l : Nat) : Enters s (s.startLine l) (.oam l) 80 (some l) 2 where
  phase := rfl
  balance := by rw [State.startLine, State.startBudget_cycleBalance, State.setMode_driver, State.setLY_driver]
  frames := by
    show ((s.setLY l).setMode 2).driver.framesDone = _
    rw [State.setMode_driver, State.setLY_driver]
  ly := by
    rintro _ ⟨⟩
    exact ((s.setLY l).setMode_ly 2).trans (s.setLY_ly l)
  stat := (s.setLY l).setMode_stat 2
  mode := by simp [State.startLine]
  vblank := ((s.setLY l).setMode_if 2).trans (s.setLY_if l)
  idle := nofun
  cpu := by simp [State.startLine]

theorem State.startTransfer_enters (s : State) (l : Nat) : Enters s (s.startTransfer l) (.transfer l) 172 none 3 where
  phase := rfl
  balance := by simp [State.startTransfer]
  frames := congrArg (fun d => d.framesDone) (s.setMode_driver 3)
  ly := nofun
  stat := s.setMode_stat 3
  mode := congrArg (fun p => p.mode.toNat) (s.setMode_ppu 3)
  vblank := s.setMode_if 3
  idle := nofun
  cpu := s.setMode_cpu 3

theorem State.startHblank_enters (s : State) (l : Nat) : Enters s (s.startHblank l) (.hblank l) 204 none 0 where
  phase := rfl
  balance := by simp [State.startHblank]
  frames := congrArg (fun d => d.framesDone) (s.setMode_driver 0)
  ly := nofun
  stat := s.setMode_stat 0
  mode := congrArg (fun p => p.mode.toNat) (s.setMode_ppu 0)
  vblank := s.setMode_if 0
  idle := nofun
  cpu := s.setMode_cpu 0

/-- An idle line leaves IF as it was (R475). -/
theorem State.startIdle_if (s : State) (k : Nat) : (s.startIdle k).mem addrIf = s.mem addrIf :=
  ((s.setMem addrLy 0).mem_putMode 0 addrIf).trans (s.mem_setMem_ne 0 (by decide))

theorem State.startIdle_enters (s : State) (k : Nat) : Enters s (s.startIdle k) (.idle k) 456 (some 0) 0 where
  phase := rfl
  balance := rfl
  frames := rfl
  ly := by
    rintro _ ⟨⟩
    exact ((s.setMem addrLy 0).mem_putMode 0 addrLy).trans (s.mem_setMem_same addrLy 0)
  stat := by
    have hstat : (s.startIdle k).mem addrStat = _ := (s.setMem addrLy 0).mem_putMode 0 addrStat
    rw [hstat, if_pos rfl, modeBits_mod_four]
    rfl
  mode := rfl
  vblank := by
    rw [s.startIdle_if k]
    rfl
  idle _ _ := ⟨s.startIdle_if k, rfl⟩
  cpu := rfl

/-- A V-blank line makes the V-blank request on line 144 and changes nothing but MEM besides SetLY and SetMode. -/
theorem State.startVblank_eq (s : State) (l : Nat) : ∃ ram,
    s.startVblank l = State.startBudget { (s.setLY l).setMode 1 with ram := ram } (.vblank l) 456 ∧
    ∀ k, (s.startVblank l).mem k = if k = addrIf then
        (if l = 144 then setBit (((s.setLY l).setMode 1).mem addrIf) 0 else ((s.setLY l).setMode 1).mem addrIf)
      else ((s.setLY l).setMode 1).mem k := by
  have hmem := fun k => ((s.setLY l).setMode 1).mem_ite_requestInterrupt (l = 144) 0 k
  refine ⟨(s.startVblank l).ram, ?_, hmem⟩
  unfold State.startVblank
  dsimp only
  split <;> rfl

theorem State.startVblank_enters (s : State) (l : Nat) : Enters s (s.startVblank l) (.vblank l) 456 (some l) 1 := by
  obtain ⟨ram, heq, hmem⟩ := s.startVblank_eq l
  have hother {k : Nat} (hk : k ≠ addrIf) := (hmem k).trans (if_neg hk)
  constructor
  case phase => rfl
  case balance => rw [heq]; simp
  case frames => rw [heq]; simp [State.startBudget]
  case ly =>
    rintro _ ⟨⟩
    rw [hother (by decide), State.setMode_ly, State.setLY_ly]
  case stat => rw [hother (by decide), State.setMode_stat]; rfl
  case mode => rw [heq]; simp
  case vblank =>
    have hif : bit (((s.setLY l).setMode 1).mem addrIf) 0 = bit (s.mem addrIf) 0 :=
      ((s.setLY l).setMode_if 1).trans (s.setLY_if l)
    rw [hmem, if_pos rfl]
    split
    case isTrue h => rw [bit_setBit _ _ (by decide), h]; simp
    case isFalse h => rw [hif]; simp [h]
  case idle => nofun
  case cpu => rw [heq]; simp

/-- The sample point of LCDC bit 7 (R471). -/
theorem State.beginFrame_enters {s : State} {p : Phase} {b : Int} {ly : Option Nat} {m : Nat}
    (h : nextLine (bit (s.mem addrLcdc) 7) .between = some (p, b, ly, m)) : Enters s s.beginFrame p b ly m := by
  unfold State.beginFrame
  simp only [nextLine] at h
  split at h
  case isTrue hon => cases h; rw [if_pos hon]; exact s.startLine_enters 0
  case isFalse hoff => cases h; rw [if_neg hoff]; exact s.startIdle_enters 0

/-- What a transition enters with does not turn on the frame handed over before it. -/
theorem Enters.of_copyFrame {s t : State} {p : Phase} {b : Int} {ly : Option Nat} {m : Nat}
    (h : Enters s.copyFrame t p b ly m) : Enters s t p b ly m where
  phase := h.phase
  balance := h.balance
  frames := h.frames
  ly := h.ly
  stat := h.stat
  mode := h.mode
  vblank := h.vblank
  idle := h.idle
  cpu := h.cpu

/-- From every position the driver enters the next one of R471, where there is one. -/
theorem State.driverAdvance_enters {s : State} {p : Phase} {b : Int} {ly : Option Nat} {m : Nat}
    (h : nextLine (bit (s.mem addrLcdc) 7) s.driver.phase = some (p, b, ly, m)) : Enters s s.driverAdvance p b ly m := by
  unfold State.driverAdvance
  cases hp : s.driver.phase <;> rw [hp] at h
  case between => exact State.beginFrame_enters h
  case idle k =>
    dsimp only
    split
    case isTrue hk => rw [nextLine, if_pos hk] at h; cases h; exact s.startIdle_enters (k + 1)
    case isFalse hk => rw [nextLine, if_neg hk] at h; exact State.beginFrame_enters h
  case oam l => cases h; exact s.startTransfer_enters l
  case transfer l => cases h; exact s.startHblank_enters l
  case hblank l =>
    dsimp only
    split
    case isTrue hl => rw [nextLine, if_pos hl] at h; cases h; exact s.startLine_enters (l + 1)
    case isFalse hl => rw [nextLine, if_neg hl] at h; cases h; exact (s.copyFrame.startVblank_enters 144).of_copyFrame
  case vblank l =>
    dsimp only
    split
    case isTrue hl => rw [nextLine, if_pos hl] at h; cases h; exact s.startVblank_enters (l + 1)
    case isFalse hl => rw [nextLine, if_neg hl] at h; cases h

/-- `next_frame` returns after the last V-blank line alone, and line 144 is entered from the last mode 0 alone (R471). -/
theorem nextLine_cases {p : Phase} (hw : p.wf = true) (on : Bool) :
    (nextLine on p = none → ∃ l, 153 ≤ l ∧ p = .vblank l) ∧
    ∀ b ly m, nextLine on p = some (.vblank 144, b, ly, m) → p = .hblank 143 := by
  cases p with
  | between => cases on <;> simp [nextLine]
  | idle k => by_cases hk : k < 153 <;> cases on <;> simp [nextLine, hk]
  | oam l | transfer l => simp [nextLine]
  | hblank l =>
    have hl : l < 144 := of_decide_eq_true hw
    by_cases hlast : l < 143
    · simp [nextLine, hlast]
    · simp [nextLine, hlast]
      omega
  | vblank l =>
    simp only [Phase.wf, Bool.and_eq_true, decide_eq_true_eq] at hw
    by_cases hlast : l < 153
    · simp [nextLine, hlast]
      omega
    · simp [nextLine, hlast]
      omega

theorem State.driverAdvance_of_none {s : State} (hw : s.driver.phase.wf = true)
    (h : nextLine (bit (s.mem addrLcdc) 7) s.driver.phase = none) : s.driverAdvance = s.returnFrame := by
  obtain ⟨l, hl, hp⟩ := (nextLine_cases hw _).1 h
  rw [State.driverAdvance, hp]
  exact if_neg (by omega)

/-- The frame handed over at line 144 is FB (R471). -/
theorem State.driverAdvance_frame {s : State} (h : s.driver.phase = .hblank 143) : s.driverAdvance.driver.frame = s.ppu.fb := by
  obtain ⟨ram, heq, -⟩ := s.copyFrame.startVblank_eq 144
  have ht : s.driverAdvance = s.copyFrame.startVblank 144 := by rw [State.driverAdvance, h]; rfl
  rw [ht, heq, State.startBudget_frame, State.setMode_driver, State.setLY_driver]
  rfl

end Sys2Proof.Machine

namespace Sys2Proof.Proofs
open Sys2Proof.Machine Sys2Proof.Forms

/-- Settles O57: a due transition enters the next position of R471, or `next_frame` returns and leaves MEM. -/
theorem driverSequence : Obligations.DriverSequence := by
  intro s
  refine ⟨fun h => if_pos h, ?_⟩
  intro h hw t
  have ht : t = s.driverAdvance := if_neg (by omega)
  cases hn : nextLine (bit (s.mem addrLcdc) 7) s.driver.phase with
  | none =>
    have hnone : nextLine ((s.mem 0xFF40).getLsbD 7) s.driver.phase = none := hn
    have hret : t = s.returnFrame := ht.trans (State.driverAdvance_of_none hw hn)
    obtain ⟨l, -, hp⟩ := (nextLine_cases hw _).1 hn
    rw [hnone, hret]
    refine ⟨rfl, fun e => ?_, fun _ => rfl, nofun, rfl⟩
    rw [hp] at e
    cases e
  | some x =>
    obtain ⟨p, b, ly, m⟩ := x
    have hsome : nextLine ((s.mem 0xFF40).getLsbD 7) s.driver.phase = some (p, b, ly, m) := hn
    have he : Enters s t p b ly m := ht ▸ State.driverAdvance_enters hn
    rw [hsome]
    refine ⟨⟨he.phase, he.balance, he.ly, he.stat, he.mode, he.frames⟩, fun hp => ⟨?_, ?_⟩, fun hp => ?_,
      fun ⟨k, hk⟩ => he.idle k (he.phase.symm.trans hk), he.cpu⟩
    · rw [hp] at hn
      cases hn
      exact he.vblank
    · rw [ht]
      exact State.driverAdvance_frame hp
    · have hne : p ≠ .vblank 144 := fun e => hp ((nextLine_cases hw _).2 _ _ _ (e ▸ hn))
      exact he.vblank.trans (by rw [decide_eq_false hne, Bool.false_or]; rfl)

end Sys2Proof.Proofs
end

section
/-! SUPPORT. The pixels of the PPU: the tile fetch in numbers, the source of the background and window pixel, and the
sprite that is seen. -/

namespace Sys2Proof.Machine
open Sys2Proof.Forms

/-! ### The tile fetch (R454) -/

theorem bit_toNat (v : Byte) (i : Nat) : (bit v i).toNat = v.toNat / 2 ^ i % 2 := Nat.toNat_testBit v.toNat i

/-- With LCDC bit 4 clear the tile number is signed; the data lies from 0x8800 on, so no address is negative. -/
theorem tileDataAddr_signed {s : State} (h : bit (s.mem addrLcdc) 4 = false) (t : Byte) : (s.tileDataAddr t : Int) =
    0x9000 + 16 * (if t.toNat < 128 then (t.toNat : Int) else (t.toNat : Int) - 256) := by
  have hlt := t.isLt
  rw [State.tileDataAddr, h, if_neg Bool.false_ne_true, BitVec.toInt_eq_toNat_cond]
  split <;> split <;> omega

/-- The second bitplane is the high bit of the color index. -/
theorem pixelOf_toNat (s : State) (bank1 : Bool) (addr r c : Nat) : (s.pixelOf bank1 addr r c).toNat =
    2 * ((s.vramByte bank1 (addr + 2 * r + 1)).toNat / 2 ^ (7 - c) % 2) +
      (s.vramByte bank1 (addr + 2 * r)).toNat / 2 ^ (7 - c) % 2 := by
  rw [← bit_toNat, ← bit_toNat]
  unfold State.pixelOf
  dsimp only
  cases bit (s.vramByte bank1 (addr + 2 * r + 1)) (7 - c) <;> cases bit (s.vramByte bank1 (addr + 2 * r)) (7 - c) <;> rfl

theorem shade_toNat (pal : Byte) (ci : BitVec 2) : (shade pal ci).toNat = pal.toNat / 2 ^ (2 * ci.toNat) % 4 := by
  have hand : ((pal >>> (2 * ci.toNat)) &&& 3#8).toNat = pal.toNat / 2 ^ (2 * ci.toNat) % 4 := by
    rw [BitVec.toNat_and, BitVec.toNat_ushiftRight, Nat.shiftRight_eq_div_pow]
    exact Nat.and_two_pow_sub_one_eq_mod _ 2
  rw [shade, BitVec.toNat_setWidth, hand]
  exact Nat.mod_eq_of_lt (by omega)

/-! ### The source of the background and window pixel (R455) -/

theorem isCgb_iff (s : State) : s.isCgb = true ↔ s.params.colorMode = .cgb := decide_eq_true_iff

/-- The window is looked at from column WX - 7 on, where it is visible. -/
theorem bgWinSource_of_window {s : State} {px l : Nat} (h5 : bit (s.mem addrLcdc) 5 = true)
    (hy : s.ppu.snap.wy.toNat ≤ l) (hx : s.ppu.snap.wx.toNat ≤ 166) (hpx : s.ppu.snap.wx.toNat ≤ px + 7) :
    s.bgWinSource px l = (if bit (s.mem addrLcdc) 6 then 0x9C00 else 0x9800, px + 7 - s.ppu.snap.wx.toNat,
      l - s.ppu.snap.wy.toNat) := by
  refine if_pos ⟨?_, hpx⟩
  simp only [State.windowVisible, h5, hy, hx, decide_true, Bool.and_self]

theorem bgWinSource_of_background {s : State} {px l : Nat} (h : ¬ (bit (s.mem addrLcdc) 5 = true ∧
    s.ppu.snap.wy.toNat ≤ l ∧ s.ppu.snap.wx.toNat ≤ 166 ∧ s.ppu.snap.wx.toNat ≤ px + 7)) :
    s.bgWinSource px l = (if bit (s.mem addrLcdc) 3 then 0x9C00 else 0x9800, (s.ppu.snap.scx.toNat + px) % 256,
      (s.ppu.snap.scy.toNat + l) % 256) := by
  refine if_neg fun ⟨hvis, hpx⟩ => h ?_
  simp only [State.windowVisible, Bool.and_eq_true, decide_eq_true_eq] at hvis
  exact ⟨hvis.1.1, hvis.1.2, hvis.2, hpx⟩

/-- In DMG mode with LCDC bit 0 clear there is no background. -/
theorem bgWinPixel_of_off {s : State} (hm : s.params.colorMode = .dmg) (h0 : bit (s.mem addrLcdc) 0 = false) (px l : Nat) :
    s.bgWinPixel px l = (0, 0) := by
  refine if_pos ⟨?_, h0⟩
  rw [State.isCgb, hm]
  rfl

/-- The pixel at a source: the tile its map names, with the flips and the bank of the CGB attribute. -/
theorem bgWinPixel_of_on {s : State} (h : s.params.colorMode = .cgb ∨ bit (s.mem addrLcdc) 0 = true) {px l m x y : Nat}
    (hsrc : s.bgWinSource px l = (m, x, y)) :
    let ia := m + 32 * (y / 8) + x / 8
    let attr := if s.params.colorMode = .cgb then s.ram.vram1.read (ia - 0x8000) else 0
    let r := if bit attr 6 then 7 - y % 8 else y % 8
    let c := if bit attr 5 then 7 - x % 8 else x % 8
    s.bgWinPixel px l = (s.pixelOf (bit attr 3) (s.tileDataAddr (s.ram.mem.read ia)) r c, attr) := by
  have hon : ¬ (s.isCgb = false ∧ bit (s.mem addrLcdc) 0 = false) := by
    rw [← Bool.not_eq_true, ← Bool.not_eq_true, isCgb_iff]
    tauto
  rw [State.bgWinPixel, if_neg hon, hsrc]
  simp only [isCgb_iff]
  rfl

end Sys2Proof.Machine

namespace Sys2Proof.Proofs
open Sys2Proof.Machine Sys2Proof.Forms

/-- Settles O53: each bit of a fetch is a digit of the byte it is taken from. -/
theorem tileFetchArithmetic : Obligations.TileFetchArithmetic := by
  intro s t m tx ty addr r c bank1 pal ci
  exact ⟨rfl, fun h => if_pos h, fun h => tileDataAddr_signed h t, fun _ => pixelOf_toNat s bank1 addr r c,
    shade_toNat pal ci⟩

/-- Settles O54: the window's columns and rows count from WX - 7 and WY, which the integers subtract. -/
theorem backgroundAndWindowPixel : Obligations.BackgroundAndWindowPixel := by
  intro s px l hpx hl lcdc wx wy inWindow
  cases hsrc : s.bgWinSource px l with | mk m xy =>
  obtain ⟨x, y⟩ := xy
  refine ⟨fun hw => ?_, fun hw => ?_, fun hm h0 => bgWinPixel_of_off hm h0 px l, fun h => bgWinPixel_of_on h hsrc⟩
  · obtain ⟨h5, hy, hx, hin⟩ := hw
    have h := hsrc.symm.trans (bgWinSource_of_window h5 (by omega) (by omega) (by omega))
    simp only [Prod.mk.injEq] at h
    obtain ⟨rfl, rfl, rfl⟩ := h
    refine ⟨rfl, ?_, ?_⟩ <;> omega
  · have h := hsrc.symm.trans (bgWinSource_of_background fun ⟨h5, hy, hx, hin⟩ => hw ⟨h5, by omega, by omega, by omega⟩)
    simp only [Prod.mk.injEq] at h
    exact h

end Sys2Proof.Proofs
end

section
/-! SUPPORT. Which sprite is seen at a point, and how its pixel and the background combine. -/

namespace Sys2Proof.Machine
open Sys2Proof.Forms

/-! ### The sprite that is seen (R457) -/

/-- Whether OAM entry `k` covers (px, l): the point is not above or left of it, and not past its height or width. -/
def State.spriteCovers (s : State) (px l k : Nat) : Prop :=
  (s.oam (4 * k)).toNat ≤ l + 16 ∧ l + 16 < (s.oam (4 * k)).toNat + s.spriteHeight ∧
    (s.oam (4 * k + 1)).toNat ≤ px + 8 ∧ px + 8 < (s.oam (4 * k + 1)).toNat + 8

/-- The color index of OAM entry `k` at a point that it covers, with the tile of a pair chosen in numbers. -/
def State.spriteColor (s : State) (px l k : Nat) : BitVec 2 :=
  let a := s.oam (4 * k + 3)
  let t := (s.oam (4 * k + 2)).toNat
  let r0 := l + 16 - (s.oam (4 * k)).toNat
  let c0 := px + 8 - (s.oam (4 * k + 1)).toNat
  let r := if bit a 6 then s.spriteHeight - 1 - r0 else r0
  let c := if bit a 5 then 7 - c0 else c0
  let tile := if s.spriteHeight = 16 then (if r < 8 then t / 2 * 2 else t / 2 * 2 + 1) else t
  s.pixelOf (s.isCgb && bit a 3) (0x8000 + 16 * tile) (r % 8) c

/-- Clearing bit 0 of a tile number, or setting it, names the upper or the lower tile of a pair. -/
theorem clearBit_zero_toNat (t : Byte) : (clearBit t 0).toNat = t.toNat / 2 * 2 := by
  rw [clearBit_eq_byte, without, byte, BitVec.toNat_ofNat]
  split <;> omega

theorem setBit_zero_toNat (t : Byte) : (setBit t 0).toNat = t.toNat / 2 * 2 + 1 := by
  rw [setBit_eq_byte, withBit, byte, BitVec.toNat_ofNat]
  split <;> omega

theorem spriteAt_of_not_covers {s : State} {px l k : Nat} (h : ¬ s.spriteCovers px l k) : s.spriteAt px l k = none :=
  if_neg h

/-- An entry that covers the point gives its pixel there, but for color index 0, which is transparent. -/
theorem spriteAt_of_covers {s : State} {px l k : Nat} (h : s.spriteCovers px l k) : s.spriteAt px l k =
    if s.spriteColor px l k = 0 then none else some (s.spriteColor px l k, s.oam (4 * k + 3)) := by
  have tile (big upper : Prop) [Decidable big] [Decidable upper] (t : Byte) :
      (if big then (if upper then clearBit t 0 else setBit t 0) else t).toNat =
        if big then (if upper then t.toNat / 2 * 2 else t.toNat / 2 * 2 + 1) else t.toNat := by
    rw [apply_ite BitVec.toNat, apply_ite BitVec.toNat, clearBit_zero_toNat, setBit_zero_toNat]
  refine (if_pos h).trans ?_
  simp only [tile]
  rfl

theorem spriteAt_of_not_opaque {s : State} {px l k : Nat} (h : ¬ (s.spriteCovers px l k ∧ s.spriteColor px l k ≠ 0)) :
    s.spriteAt px l k = none := by
  by_cases hc : s.spriteCovers px l k
  · rw [spriteAt_of_covers hc, if_pos (not_not.mp fun ho => h ⟨hc, ho⟩)]
  · exact spriteAt_of_not_covers hc

/-- The first index that gives a value gives the value found. -/
theorem findSome?_range_of_first {α : Type} {f : Nat → Option α} {n k : Nat} {x : α} (hk : k < n) (hx : f k = some x)
    (hfirst : ∀ j, j < k → f j = none) : (List.range n).findSome? f = some x := by
  induction n with
  | zero => omega
  | succ n ih =>
    rw [List.range_succ, List.findSome?_append]
    rcases Nat.lt_succ_iff_lt_or_eq.mp hk with hlt | rfl
    · rw [ih hlt, Option.some_or]
    · have hnone : (List.range k).findSome? f = none :=
        List.findSome?_eq_none_iff.mpr fun j hj => hfirst j (List.mem_range.mp hj)
      rw [hnone, Option.none_or, List.findSome?_singleton, hx]

theorem spritePixel_of_off {s : State} (h : bit (s.mem addrLcdc) 1 = false) (px l : Nat) : s.spritePixel px l = none :=
  if_neg (Bool.eq_false_iff.mp h)

/-- The entry of the lowest index that is opaque at the point is the one that is seen. -/
theorem spritePixel_of_first {s : State} (h : bit (s.mem addrLcdc) 1 = true) {px l k : Nat} (hk : k < 40)
    (hc : s.spriteCovers px l k) (ho : s.spriteColor px l k ≠ 0)
    (hfirst : ∀ j, j < k → ¬ (s.spriteCovers px l j ∧ s.spriteColor px l j ≠ 0)) :
    s.spritePixel px l = some (s.spriteColor px l k, s.oam (4 * k + 3)) := by
  rw [State.spritePixel, if_pos h]
  exact findSome?_range_of_first hk ((spriteAt_of_covers hc).trans (if_neg ho))
    fun j hj => spriteAt_of_not_opaque (hfirst j hj)

theorem spritePixel_of_none {s : State} (h : bit (s.mem addrLcdc) 1 = true) {px l : Nat}
    (hnone : ∀ k, k < 40 → ¬ (s.spriteCovers px l k ∧ s.spriteColor px l k ≠ 0)) : s.spritePixel px l = none := by
  rw [State.spritePixel, if_pos h]
  exact List.findSome?_eq_none_iff.mpr fun k hk => spriteAt_of_not_opaque (hnone k (List.mem_range.mp hk))

/-! ### The composition (R459, R460) -/

/-- A color is the low 15 bits of its two bytes, the second one high. -/
theorem paletteColor_toNat (p : Store 8) (pal : Nat) (ci : BitVec 2) : (paletteColor p pal ci).toNat =
    ((p.read (8 * pal + 2 * ci.toNat)).toNat + 256 * (p.read (8 * pal + 2 * ci.toNat + 1)).toNat) % 32768 := by
  rw [paletteColor, BitVec.toNat_setWidth, cat_toNat]
  omega

end Sys2Proof.Machine

namespace Sys2Proof.Proofs
open Sys2Proof.Machine Sys2Proof.Forms

/-- Settles O55: the search is for the first entry that covers the point with a color index other than 0. -/
theorem spriteSelection : Obligations.SpriteSelection := by
  intro s px l lcdc h oam covers color
  have hcovers (k : Nat) : covers k ↔ s.spriteCovers px l k := by
    show _ ↔ (oam (4 * k)).toNat ≤ l + 16 ∧ l + 16 < (oam (4 * k)).toNat + h ∧
      (oam (4 * k + 1)).toNat ≤ px + 8 ∧ px + 8 < (oam (4 * k + 1)).toNat + 8
    simp only [covers]
    omega
  have hcolor (k : Nat) : color k = s.spriteColor px l k := rfl
  simp only [hcovers, hcolor]
  exact ⟨fun h1 => spritePixel_of_off h1 px l, fun h1 =>
    ⟨fun k hk hc ho hfirst => spritePixel_of_first h1 hk hc ho hfirst, fun hnone => spritePixel_of_none h1 hnone⟩⟩

/-- Settles O56: without a sprite pixel the background is seen, with one the priority bits decide. -/
theorem pixelComposition : Obligations.PixelComposition := by
  intro s px l lcdc b bshade color
  have hcolor (p : Store 8) (pal : Nat) (ci : BitVec 2) : (paletteColor p pal ci).toNat = color p pal ci.toNat :=
    paletteColor_toNat p pal ci
  refine ⟨fun hnone => ⟨?_, ?_⟩, fun sci a hsome => ⟨?_, ?_⟩⟩
  · rw [State.dmgPixel, hnone]
    rfl
  · rw [State.cgbPixel, hnone]
    exact hcolor ..
  · rw [State.dmgPixel, hsome]
    rfl
  · rw [State.cgbPixel, hsome, ← hcolor, ← hcolor]
    exact apply_ite BitVec.toNat ..

end Sys2Proof.Proofs
end

section
/-! SUPPORT. The two ends of a machine step, and what the calls of the host answer. -/

namespace Sys2Proof.Machine
open Sys2Proof.Forms

/-! ### The end of a machine step (R401) -/

/-- A tick changes the timer and MEM: neither the driver nor the count of cycles. -/
theorem State.tick_frame (s : State) (c : Nat) :
    ∃ m t, s.tick c = { s with ram := { s.ram with mem := m }, timer := t } := by
  cases h : bit (s.mem addrTac) 2 with
  | false => exact ⟨s.ram.mem, _, State.tick_of_stopped h c⟩
  | true =>
    obtain ⟨m, hm⟩ := State.timaIncrements_frame ((s.timer.timaAcc + c) / timaPeriod (s.mem addrTac)) s
    exact ⟨m, s.tickedTimer c, by rw [State.tick_of_running h, hm]⟩

@[simp] theorem State.tick_driver (s : State) (c : Nat) : (s.tick c).driver = s.driver := by
  obtain ⟨m, t, h⟩ := s.tick_frame c
  rw [h]

@[simp] theorem State.tick_stepCycles (s : State) (c : Nat) : (s.tick c).stepCycles = s.stepCycles := by
  obtain ⟨m, t, h⟩ := s.tick_frame c
  rw [h]

/-! ### press (R480) -/

/-- A press requests the joypad interrupt where the button was up and JOYPAD_IRQ = on_press, and clears its bit. -/
theorem State.press_eq (s : State) (b : Nat) : s.press b = { s with
    ram := if s.params.joypadIrq = .onPress ∧ bit s.controls b = true then (s.requestInterrupt 4).ram else s.ram
    controls := clearBit s.controls b } := by
  unfold State.press
  dsimp only
  split <;> rfl

/-! ### The calls between frames (R482, R483) -/

theorem State.betweenFrames_of_between {s : State} (h : s.driver.phase = .between) (t : State) :
    s.betweenFrames t = .next t := if_pos h

theorem State.betweenFrames_of_during {s : State} (h : s.driver.phase ≠ .between) (t : State) :
    s.betweenFrames t = .refused .duringFrame := if_neg h

/-! ### load_state (R482) -/

/-- A load without a file of this ROM only reports the failure. -/
theorem State.loadState_of_failure {s : State}
    (h : s.savFile = none ∨ ∃ d, s.savFile = some d ∧ sameRom d s.cart.rom = false) : s.loadState = s.report false := by
  unfold State.loadState
  rcases h with h | ⟨d, h, hrom⟩
  · rw [h]
  · rw [h]
    exact if_neg (Bool.eq_false_iff.mp hrom)

/-- F with its low nibble 0 is restored as it was saved (R33). -/
theorem and_high_nibble {v : Byte} (h : v &&& 0x0F#8 = 0) : v &&& 0xF0#8 = v := by
  revert v
  decide

/-- A saved file holds MEM, and in CGB mode the whole RAM image. -/
theorem State.saveImage_mem (s : State) : s.saveImage.ram.mem = s.ram.mem := by
  unfold State.saveImage
  dsimp only
  split <;> rfl

theorem State.saveImage_ram (s : State) (h : s.params.colorMode = .cgb) : s.saveImage.ram = s.ram :=
  if_pos ((isCgb_iff s).mpr h)

/-- A load of what `s` saved restores the memory and the CPU registers of `s` where the file is of this ROM. -/
theorem State.loadState_of_saveImage {s u : State} (hs : s.Inv) (hp : u.params = s.params)
    (hfile : u.savFile = some s.saveImage) : u.loadState = if sameRom s.saveImage u.cart.rom then
      State.report { u with
        ram := if s.params.colorMode = .cgb then s.ram else { u.ram with mem := s.ram.mem }
        cpu := s.cpu } true
      else u.report false := by
  obtain ⟨hlow, hwf, -⟩ := hs
  have hram := State.restoreRam_saveImage hwf hp
  have hf : s.saveImage.cpu.f &&& 0xF0#8 = s.saveImage.cpu.f := and_high_nibble hlow
  simp only [isCgb_iff] at hram
  rw [State.loadState, hfile]
  dsimp only
  rw [hram, hf]
  rfl

/-- A load right after the save restores what is there. -/
theorem State.loadState_saveState {s : State} (hs : s.Inv) : s.saveState.loadState = s.saveState.report true := by
  have hram : (if s.params.colorMode = .cgb then s.ram else { s.saveState.ram with mem := s.ram.mem }) = s.saveState.ram :=
    ite_self _
  have hrom : sameRom s.saveImage s.saveState.cart.rom = true := sameRom_saveImage s
  rw [State.loadState_of_saveImage (u := s.saveState) hs rfl s.saveState_savFile, if_pos hrom, hram]
  rfl

end Sys2Proof.Machine

namespace Sys2Proof.Proofs
open Sys2Proof.Machine Sys2Proof.Forms

/-- Settles O48: the tick and the charge look at the cycles that the CPU step left, and the tick changes neither. -/
theorem machineStepTicksAndCharges : Obligations.MachineStepTicksAndCharges := by
  intro s t h
  refine ⟨?_, t.tick_driver _, t.tick_stepCycles _⟩
  have hrun : cpuStep s.beginStep = .next t := h
  rw [machineStep, hrun, onNext, State.endStep]
  simp only [State.tick_driver, State.tick_stepCycles]

/-- Settles O58: each call is one update, answered or refused by the button's number or by the driver's position. -/
theorem hostControls : Obligations.HostControls := by
  intro s b
  refine ⟨fun hb => ?_, fun hb => ?_, rfl, fun hb => ⟨if_neg (by omega), if_neg (by omega)⟩, fun hp => ⟨?_, ?_⟩,
    fun hp => ⟨?_, ?_, ?_, ?_⟩, fun _ _ => rfl⟩
  · rw [← clearBit_eq_byte]
    exact (if_pos hb).trans (congrArg Host.Outcome.next (s.press_eq b))
  · rw [← setBit_eq_byte]
    exact if_pos hb
  · exact fun path image draws => State.betweenFrames_of_between hp _
  · exact fun path file => ⟨s.setSav path file, State.betweenFrames_of_between hp _, rfl, s.findSav_setSav path file⟩
  · exact State.betweenFrames_of_during hp _
  · exact State.betweenFrames_of_during hp _
  · exact fun _ _ _ => State.betweenFrames_of_during hp _
  · exact fun _ _ => State.betweenFrames_of_during hp _

/-- Settles O59: a save writes the image of the state as the file of its ROM, and a load of it puts back the memory and
the CPU registers; both leave the rest. -/
theorem saveThenLoadRestores : Obligations.SaveThenLoadRestores := by
  refine ⟨fun s hs hp => ?_, fun u hp hf => ?_⟩
  · refine ⟨s.saveState, s.saveImage, State.betweenFrames_of_between hp _, s.saveState_savFile, rfl, s.saveImage_mem,
      s.saveImage_ram, rfl, fun q hq => ?_, ?_, fun u hup hbetween hfile => ⟨fun hrom => ?_, ?_⟩⟩
    · exact (s.findSav_setSav _ _ q).trans (if_neg hq)
    · exact (State.betweenFrames_of_between hp _).trans (congrArg Host.Outcome.next (State.loadState_saveState hs))
    · exact hrom ▸ sameRom_saveImage s
    · exact (State.betweenFrames_of_between hbetween _).trans
        (congrArg Host.Outcome.next (State.loadState_of_saveImage hs hup hfile))
  · exact (State.betweenFrames_of_between hp _).trans (congrArg Host.Outcome.next (State.loadState_of_failure hf))

end Sys2Proof.Proofs
end

section
/-! SUPPORT. The blocks that no instruction changes: every update that an operation is made of leaves them. -/

namespace Sys2Proof.Machine

/-- `t` has the blocks of `s` that lie outside the reach of an instruction (R43, R44, R126, R482). -/
structure SameBlocks (s t : State) : Prop where
  params : t.params = s.params
  rom : t.cart.rom = s.cart.rom
  controls : t.controls = s.controls
  ppu : t.ppu = s.ppu
  driver : t.driver = s.driver
  timaAcc : t.timer.timaAcc = s.timer.timaAcc
  schedule : t.hostSide.schedule = s.hostSide.schedule
  romPath : t.hostSide.romPath = s.hostSide.romPath
  savFiles : t.hostSide.savFiles = s.hostSide.savFiles
  loadReport : t.hostSide.loadReport = s.hostSide.loadReport

namespace SameBlocks

variable {s t u : State}

theorem trans (h : SameBlocks s t) (h' : SameBlocks t u) : SameBlocks s u where
  params := h'.params.trans h.params
  rom := h'.rom.trans h.rom
  controls := h'.controls.trans h.controls
  ppu := h'.ppu.trans h.ppu
  driver := h'.driver.trans h.driver
  timaAcc := h'.timaAcc.trans h.timaAcc
  schedule := h'.schedule.trans h.schedule
  romPath := h'.romPath.trans h.romPath
  savFiles := h'.savFiles.trans h.savFiles
  loadReport := h'.loadReport.trans h.loadReport

/-- A change of CPU registers, MEM and the two counts alone. -/
theorem of_update (s : State) (cpu : Cpu) (ram : Ram) (cycles draws : Nat) :
    SameBlocks s { s with cpu := cpu, ram := ram, stepCycles := cycles, divDraws := draws } :=
  ⟨rfl, rfl, rfl, rfl, rfl, rfl, rfl, rfl, rfl, rfl⟩

theorem refl (s : State) : SameBlocks s s := of_update s s.cpu s.ram s.stepCycles s.divDraws

theorem setReg (s : State) (r : Reg8) (v : Byte) : SameBlocks s (s.setReg r v) := by
  constructor <;> simp

theorem noteRead (s : State) (a : Word) : SameBlocks s (s.noteRead a) := by
  constructor <;> simp

theorem memWrite (s : State) (a : Word) (v : Byte) : SameBlocks s (s.memWrite a v) := by
  constructor <;> simp

/-- Every update that an operation is made of leaves these blocks, whatever CPU registers it may write. -/
theorem keep (w : Writes) (s : State) : w.Keep (SameBlocks s) where
  setReg v _ h := h.trans (setReg _ _ v)
  setSp _ _ h := h.trans (of_update _ _ _ _ _)
  setPc _ h := h.trans (of_update _ _ _ _ _)
  setF _ _ h := h.trans (of_update _ _ _ _ _)
  setFlags _ _ _ _ _ h := h.trans (of_update _ _ _ _ _)
  setIme _ _ _ h := h.trans (of_update _ _ _ _ _)
  setHalted _ _ h := h.trans (of_update _ _ _ _ _)
  setKey1 _ h := h.trans (of_update _ _ _ _ _)
  memWrite a v h := h.trans (memWrite _ a v)
  noteRead a h := h.trans (noteRead _ a)
  addCycles _ h := h.trans (of_update _ _ _ _ _)

end SameBlocks

end Sys2Proof.Machine

namespace Sys2Proof.Proofs
open Sys2Proof.Machine

/-- Settles O10: an instruction's meaning is made of updates that leave these blocks. -/
theorem execLeavesOtherBlocksUnchanged : Obligations.ExecLeavesOtherBlocksUnchanged := by
  intro i s t h
  have hrun : (meaningOf i).run s = .next t := by rw [← exec_eq_run, h]
  obtain ⟨hparams, hrom, hcontrols, hppu, hdriver, htima, hschedule, hpath, hsav, hreport⟩ :=
    (meaningOf i).sound (SameBlocks.keep _ s) (SameBlocks.refl s) t hrun
  exact ⟨hparams, hrom, hcontrols, hppu, hdriver, htima, hschedule, hpath, hsav, hreport⟩

end Sys2Proof.Proofs
end

section
/-! SUPPORT. What a read gives, region by region, and the four windows of the bank controller. -/

namespace Sys2Proof.Machine
open Sys2Proof.Forms

/-! ### Reads (R105) -/

theorem State.isCgb_iff (s : State) : s.isCgb = true ↔ s.params.colorMode = .cgb := decide_eq_true_iff

theorem State.vram1Selected_iff (s : State) :
    s.vram1Selected = true ↔ s.params.colorMode = .cgb ∧ bit (s.mem addrVbk) 0 = true := by
  rw [State.vram1Selected, Bool.and_eq_true, s.isCgb_iff]

theorem State.wramxSelected_iff (s : State) :
    s.wramxSelected = true ↔ s.params.colorMode = .cgb ∧ 2 ≤ s.wramBank := by
  rw [State.wramxSelected, Bool.and_eq_true, s.isCgb_iff, decide_eq_true_iff]

section
variable {s : State} {a : Word}

theorem State.memRead_rom0 (h : a.toNat < 0x4000) : s.memRead a = s.romByte a.toNat := if_pos h

theorem State.memRead_romBank (hl : 0x4000 ≤ a.toNat) (hh : a.toNat < 0x8000) :
    s.memRead a = s.romByte (s.activeBank * 0x4000 + (a.toNat - 0x4000)) :=
  (if_neg (Nat.not_lt.mpr hl)).trans (if_pos hh)

theorem State.memRead_vram1 (hl : 0x8000 ≤ a.toNat) (hh : a.toNat < 0xA000) (hs : s.vram1Selected = true) :
    s.memRead a = s.ram.vram1.read (a.toNat - 0x8000) := by
  rw [State.memRead, if_neg (by omega), if_neg (by omega), if_pos ⟨hh, hs⟩]

theorem State.memRead_wramx (hl : 0xD000 ≤ a.toNat) (hh : a.toNat < 0xE000) (hs : s.wramxSelected = true) :
    s.memRead a = s.ram.wramx.read (s.wramBank * 0x1000 + (a.toNat - 0xD000)) := by
  rw [State.memRead, if_neg (by omega), if_neg (by omega), if_neg (by omega), if_pos ⟨hl, hh, hs⟩]

/-- A read of no bank window and of no computed port is of MEM. -/
theorem State.memRead_mem (hl : 0x8000 ≤ a.toNat) (hv : ¬ (a.toNat < 0xA000 ∧ s.vram1Selected = true))
    (hw : ¬ (0xD000 ≤ a.toNat ∧ a.toNat < 0xE000 ∧ s.wramxSelected = true)) (hp1 : a.toNat ≠ addrP1)
    (hdiv : a.toNat ≠ addrDiv) (hb : ¬ (s.isCgb = true ∧ a.toNat = addrBcpd))
    (ho : ¬ (s.isCgb = true ∧ a.toNat = addrOcpd)) :
    s.memRead a = s.mem a.toNat := by
  rw [State.memRead, if_neg (by omega), if_neg (by omega), if_neg hv, if_neg hw, if_neg hp1, if_neg hdiv, if_neg hb,
    if_neg ho]

theorem State.memRead_bcpd (h : s.isCgb = true) : s.memRead 0xFF69 = s.ram.bgPal.read ((s.mem addrBcps).toNat % 64) :=
  if_pos ⟨h, rfl⟩

theorem State.memRead_ocpd (h : s.isCgb = true) : s.memRead 0xFF6B = s.ram.objPal.read ((s.mem addrOcps).toNat % 64) :=
  (if_neg (fun e => absurd e.2 (by decide))).trans (if_pos ⟨h, rfl⟩)

end

/-! ### The bank controller (R121 to R124) -/

section
variable (s : State) {a : Word} (v : Byte)

theorem State.memWrite_bankController (h : a.toNat < 0x8000) : s.memWrite a v = s.bankWrite a.toNat v := if_pos h

theorem State.bankWrite_below {n : Nat} (h : n < 0x2000) : s.bankWrite n v = s := if_pos h

theorem State.bankWrite_low {n : Nat} (hl : 0x2000 ≤ n) (hh : n < 0x4000) : s.bankWrite n v =
    { s with cart := { s.cart with romBankLo := if v.setWidth 5 = 0 then 1 else v.setWidth 5 } } :=
  (if_neg (Nat.not_lt.mpr hl)).trans (if_pos hh)

theorem State.bankWrite_high {n : Nat} (hl : 0x4000 ≤ n) (hh : n < 0x6000) : s.bankWrite n v =
    { s with cart := { s.cart with bankHi := v.setWidth 2 } } := by
  rw [State.bankWrite, if_neg (by omega), if_neg (by omega), if_pos hh]

theorem State.bankWrite_mode {n : Nat} (hl : 0x6000 ≤ n) : s.bankWrite n v =
    { s with cart := { s.cart with bankMode := v.setWidth 1 } } := by
  rw [State.bankWrite, if_neg (by omega), if_neg (by omega), if_neg (by omega)]

end

theorem setWidth_eq_ofNat_mod (v : Byte) (w : Nat) : v.setWidth w = BitVec.ofNat w (v.toNat % 2 ^ w) := by
  apply BitVec.eq_of_toNat_eq
  rw [BitVec.toNat_setWidth, BitVec.toNat_ofNat, Nat.mod_mod]

/-- The low bank bits, 0 remapped to 1, in numbers (R122). -/
theorem bankLow_eq (v : Byte) : (if v.setWidth 5 = 0 then 1 else v.setWidth 5) =
    BitVec.ofNat 5 (if v.toNat % 32 = 0 then 1 else v.toNat % 32) := by
  rw [apply_ite (BitVec.ofNat 5)]
  refine ite_congr (propext ?_) (fun _ => rfl) fun _ => setWidth_eq_ofNat_mod v 5
  rw [← BitVec.toNat_inj, BitVec.toNat_setWidth]
  rfl

end Sys2Proof.Machine

namespace Sys2Proof.Proofs
open Sys2Proof.Machine Sys2Proof.Forms

/-- Settles O15: the write and the read of a plain address go to the same byte of the same bank. -/
theorem memWriteReadsBack : Obligations.MemWriteReadsBack := fun _ _ v h => State.memRead_memWrite_same v h

/-- Settles O14: each region is one branch of MemRead, and the last is none of the others. -/
theorem memReadMap : Obligations.MemReadMap := by
  intro s a
  refine ⟨State.memRead_rom0, State.memRead_romBank, fun ⟨hc, hl, hh, hsel⟩ => ?_,
    fun ⟨hc, hl, hh, hsel⟩ => ?_, fun h => ?_, fun h hcounter => ?_, fun h hdraw => ?_, fun hc h => ?_, fun hc h => ?_,
    fun hl hv hw hp1 hdiv hpal => ?_⟩
  · exact State.memRead_vram1 hl hh (s.vram1Selected_iff.mpr ⟨hc, hsel⟩)
  · exact State.memRead_wramx hl hh (s.wramxSelected_iff.mpr ⟨hc, hsel⟩)
  · rw [(BitVec.toNat_eq_nat.mp h).2]
    rfl
  · rw [(BitVec.toNat_eq_nat.mp h).2, State.memRead_div, State.divRead, hcounter]
  · rw [(BitVec.toNat_eq_nat.mp h).2, State.memRead_div, State.divRead, hdraw]
  · rw [(BitVec.toNat_eq_nat.mp h).2]
    exact State.memRead_bcpd (s.isCgb_iff.mpr hc)
  · rw [(BitVec.toNat_eq_nat.mp h).2]
    exact State.memRead_ocpd (s.isCgb_iff.mpr hc)
  · refine State.memRead_mem hl (fun ⟨hh, hs⟩ => hv ?_) (fun ⟨hl, hh, hs⟩ => hw ?_) hp1 hdiv
      (fun ⟨hc, h⟩ => hpal ⟨s.isCgb_iff.mp hc, .inl h⟩) (fun ⟨hc, h⟩ => hpal ⟨s.isCgb_iff.mp hc, .inr h⟩)
    · obtain ⟨hc, hsel⟩ := s.vram1Selected_iff.mp hs
      exact ⟨hc, hl, hh, hsel⟩
    · obtain ⟨hc, hsel⟩ := s.wramxSelected_iff.mp hs
      exact ⟨hc, hl, hh, hsel⟩

/-- Settles O18: each window is one branch of the bank controller, and the low bits select the bank that is read. -/
theorem bankControllerWrites : Obligations.BankControllerWrites := by
  intro s a v
  refine ⟨fun h => ?_, fun hl hh => ?_, fun hl hh => ?_, fun hl hh => ?_⟩
  · exact (s.memWrite_bankController v (by omega)).trans (s.bankWrite_below v h)
  · have hwrite := (s.memWrite_bankController v (a := a) (by omega)).trans (s.bankWrite_low v hl hh)
    rw [bankLow_eq] at hwrite
    refine ⟨hwrite, fun b hbl hbh => ?_⟩
    have hlow : (if v.toNat % 32 = 0 then 1 else v.toNat % 32) < 32 := by split <;> omega
    rw [State.memRead_romBank hbl hbh, hwrite]
    generalize (if v.toNat % 32 = 0 then 1 else v.toNat % 32) = low at hlow
    rw [State.activeBank, BitVec.toNat_ofNat, Nat.mod_eq_of_lt hlow]
    rfl
  · rw [s.memWrite_bankController v (by omega), s.bankWrite_high v hl hh, setWidth_eq_ofNat_mod]
    rfl
  · rw [s.memWrite_bankController v hh, s.bankWrite_mode v hl, setWidth_eq_ofNat_mod]
    rfl

end Sys2Proof.Proofs
end

section
/-! SUPPORT. What a write through the MMU leaves: a read looks at its own byte and at one bank or index register, and at
nothing that another write changes; OAM DMA and the palette ports are runs of such writes. -/

namespace Sys2Proof.Machine
open Sys2Proof.Forms

/-! ### What a read looks at (R105) -/

/-- A read of `b` may look at the byte `n` of MEM: at `b` itself, and in CGB mode at the register that selects the bank
or the index behind `b`. -/
def LooksAt (cgb : Bool) (b n : Nat) : Prop :=
  n = b ∨ cgb = true ∧ (n = addrVbk ∧ 0x8000 ≤ b ∧ b < 0xA000 ∨ n = addrSvbk ∧ 0xD000 ≤ b ∧ b < 0xE000 ∨
    n = addrBcps ∧ b = addrBcpd ∨ n = addrOcps ∧ b = addrOcpd)

section
variable {s : State} {r : Ram} {b : Nat} (hmem : ∀ n, LooksAt s.isCgb b n → r.mem.read n = s.mem n)
include hmem

theorem State.vram1Selected_congr (hl : 0x8000 ≤ b) (hh : b < 0xA000) :
    State.vram1Selected { s with ram := r } = s.vram1Selected := by
  show (s.isCgb && bit (r.mem.read addrVbk) 0) = (s.isCgb && bit (s.mem addrVbk) 0)
  cases hc : s.isCgb with
  | false => rfl
  | true => rw [hmem addrVbk (.inr ⟨hc, .inl ⟨rfl, hl, hh⟩⟩)]

theorem State.wramBank_congr (hc : s.isCgb = true) (hl : 0xD000 ≤ b) (hh : b < 0xE000) :
    State.wramBank { s with ram := r } = s.wramBank := by
  have hbank : State.mem { s with ram := r } addrSvbk = s.mem addrSvbk :=
    hmem addrSvbk (.inr ⟨hc, .inr (.inl ⟨rfl, hl, hh⟩)⟩)
  rw [State.wramBank, hbank, ← State.wramBank]

theorem State.wramxSelected_congr (hl : 0xD000 ≤ b) (hh : b < 0xE000) :
    State.wramxSelected { s with ram := r } = s.wramxSelected := by
  show (s.isCgb && decide (2 ≤ State.wramBank { s with ram := r })) = (s.isCgb && decide (2 ≤ s.wramBank))
  cases hc : s.isCgb with
  | false => rfl
  | true => rw [State.wramBank_congr hmem hc hl hh]

end

/-- With another memory that agrees on all that a read of `b` looks at, the read is the same. -/
theorem State.memRead_congr_ram {s : State} {r : Ram} {b : Word}
    (hmem : ∀ n, LooksAt s.isCgb b.toNat n → r.mem.read n = s.mem n)
    (hvram : 0x8000 ≤ b.toNat → b.toNat < 0xA000 → s.vram1Selected = true →
      r.vram1.read (b.toNat - 0x8000) = s.ram.vram1.read (b.toNat - 0x8000))
    (hwram : 0xD000 ≤ b.toNat → b.toNat < 0xE000 → s.wramxSelected = true →
      r.wramx.read (s.wramBank * 0x1000 + (b.toNat - 0xD000)) =
        s.ram.wramx.read (s.wramBank * 0x1000 + (b.toNat - 0xD000)))
    (hbg : b.toNat = addrBcpd → r.bgPal = s.ram.bgPal) (hobj : b.toNat = addrOcpd → r.objPal = s.ram.objPal) :
    State.memRead { s with ram := r } b = s.memRead b := by
  have hself : r.mem.read b.toNat = s.mem b.toNat := hmem _ (.inl rfl)
  refine ite_congr rfl (fun _ => rfl) fun _ => ite_congr rfl (fun _ => rfl) fun h8000 => ?_
  have hl : 0x8000 ≤ b.toNat := Nat.le_of_not_lt h8000
  refine ite_congr (propext (and_congr_right fun hh => by rw [State.vram1Selected_congr hmem hl hh]))
    (fun hin => hvram hl hin.1 hin.2) fun _ => ?_
  refine ite_congr (propext (and_congr_right fun hl => and_congr_right fun hh => by
    rw [State.wramxSelected_congr hmem hl hh])) (fun ⟨hl, hh, hs⟩ => ?_) fun _ => ?_
  · rw [State.wramBank_congr hmem (s.isCgb_iff.mpr (s.wramxSelected_iff.mp hs).1) hl hh]
    exact hwram hl hh hs
  refine ite_congr rfl (fun e => ?_) fun _ => ite_congr rfl (fun _ => rfl) fun _ => ?_
  · have hp1 : State.mem { s with ram := r } addrP1 = s.mem addrP1 := e ▸ hself
    rw [State.joypadRead, hp1, ← State.joypadRead]
  refine ite_congr rfl (fun ⟨hc, e⟩ => ?_) fun _ => ite_congr rfl (fun ⟨hc, e⟩ => ?_) fun _ => hself
  · rw [hbg e, ← hmem addrBcps (.inr ⟨hc, .inr (.inr (.inl ⟨rfl, e⟩))⟩)]
    rfl
  · rw [hobj e, ← hmem addrOcps (.inr ⟨hc, .inr (.inr (.inr ⟨rfl, e⟩))⟩)]
    rfl

/-! ### What a write leaves -/

theorem State.memRead_setMem_of_not_looksAt {s : State} {b : Word} {n : Nat} (v : Byte)
    (h : ¬ LooksAt s.isCgb b.toNat n) : (s.setMem n v).memRead b = s.memRead b :=
  State.memRead_congr_ram (fun _ hk => Store.read_write_ne _ _ fun e => h (e ▸ hk)) (fun _ _ _ => rfl)
    (fun _ _ _ => rfl) (fun _ => rfl) fun _ => rfl

theorem State.memRead_advancePaletteIndex {s : State} {b : Word} {n : Nat} (h : ¬ LooksAt s.isCgb b.toNat n) :
    (s.advancePaletteIndex n).memRead b = s.memRead b := by
  unfold State.advancePaletteIndex
  dsimp only
  split
  · exact State.memRead_setMem_of_not_looksAt _ h
  · rfl

theorem State.memRead_bgPaletteWrite {s : State} {b : Word} (v : Byte) (hb : b.toNat ≠ addrBcpd)
    (h : ¬ LooksAt s.isCgb b.toNat addrBcps) : (s.bgPaletteWrite v).memRead b = s.memRead b := by
  rw [State.bgPaletteWrite, State.memRead_advancePaletteIndex]
  · exact State.memRead_congr_ram (fun _ _ => rfl) (fun _ _ _ => rfl) (fun _ _ _ => rfl) (fun e => absurd e hb)
      fun _ => rfl
  · exact h

theorem State.memRead_objPaletteWrite {s : State} {b : Word} (v : Byte) (hb : b.toNat ≠ addrOcpd)
    (h : ¬ LooksAt s.isCgb b.toNat addrOcps) : (s.objPaletteWrite v).memRead b = s.memRead b := by
  rw [State.objPaletteWrite, State.memRead_advancePaletteIndex]
  · exact State.memRead_congr_ram (fun _ _ => rfl) (fun _ _ _ => rfl) (fun _ _ _ => rfl) (fun _ => rfl)
      fun e => absurd e hb
  · exact h

/-! ### OAM DMA (R130) -/

/-- No read looks at OAM but those of OAM itself. -/
theorem not_looksAt_oam {cgb : Bool} {b n : Nat} (hn : n ≠ b) (hh : n < 0xFEA0) : ¬ LooksAt cgb b n := by
  rintro (e | ⟨-, ⟨e, -⟩ | ⟨e, -⟩ | ⟨e, -⟩ | ⟨e, -⟩⟩)
  · exact hn e
  all_goals exact absurd (e ▸ hh) (by decide)

theorem State.oamDmaFrom_succ (v : Byte) (left i : Nat) (s : State) : State.oamDmaFrom v (left + 1) i s =
    State.oamDmaFrom v left (i + 1) ((s.noteRead (cat v 0 + BitVec.ofNat 16 i)).setMem (0xFE00 + i)
      (s.memRead (cat v 0 + BitVec.ofNat 16 i))) := rfl

theorem oamSource_toNat (v : Byte) {i : Nat} (hi : i < 160) :
    (cat v 0 + BitVec.ofNat 16 i).toNat = v.toNat * 256 + i := by
  have := v.isLt
  have hlow : BitVec.toNat (0 : Byte) = 0 := rfl
  rw [BitVec.toNat_add, cat_toNat, BitVec.toNat_ofNat, hlow]
  omega

/-- The copy of one byte changes no read but that of its place in OAM and what the read of its source uses up. -/
theorem State.memRead_copyByte {s : State} {a b : Word} {i : Nat} (v : Byte) (hi : i < 160) (hb : b.toNat ≠ 0xFE00 + i)
    (h : (s.noteRead a).memRead b = s.memRead b) : ((s.noteRead a).setMem (0xFE00 + i) v).memRead b = s.memRead b :=
  (State.memRead_setMem_of_not_looksAt v (not_looksAt_oam hb.symm (by omega))).trans h

theorem State.memRead_oamDmaFrom {v : Byte} {b : Word} (hb : b.toNat < 0xFE00 ∨ 0xFEA0 ≤ b.toNat) (left i : Nat)
    (hi : i + left ≤ 160) {s : State} (h : s.params.divRead = .counter ∨ b ≠ 0xFF04#16) :
    (State.oamDmaFrom v left i s).memRead b = s.memRead b := by
  induction left generalizing i s with
  | zero => rfl
  | succ left ih =>
    rw [State.oamDmaFrom_succ, ih (i + 1) (by omega) (by simpa using h)]
    refine State.memRead_copyByte _ (by omega) (by omega) ?_
    exact State.memRead_congr b (by simp) (by simp) (by simp) (by simp) (by simp) (.inr h)

theorem State.memRead_oamDma (s : State) {b : Word} (v : Byte) (hb : b.toNat < 0xFE00 ∨ 0xFEA0 ≤ b.toNat)
    (h : s.params.divRead = .counter ∨ b ≠ 0xFF04#16) : (s.oamDma v).memRead b = s.memRead b :=
  State.memRead_oamDmaFrom hb 160 0 (by decide) h

/-- Byte `j` of OAM is what its source reads before the copy: no byte copied before it is that source, as a source in
OAM is its own place. -/
theorem State.oamDmaFrom_mem {v : Byte} {j : Nat} (left i : Nat) (hi : i + left ≤ 160) (hl : i ≤ j) (hh : j < i + left)
    (s : State) : (State.oamDmaFrom v left i s).mem (0xFE00 + j) = s.memRead (cat v 0 + BitVec.ofNat 16 j) := by
  induction left generalizing i s with
  | zero => omega
  | succ left ih =>
    rw [State.oamDmaFrom_succ]
    obtain rfl | hlt := hl.eq_or_lt
    · obtain ⟨-, -, hmem⟩ := State.oamDmaFrom_ram v left (i + 1)
        ((s.noteRead (cat v 0 + BitVec.ofNat 16 i)).setMem (0xFE00 + i) (s.memRead (cat v 0 + BitVec.ofNat 16 i)))
      rw [hmem _ (.inl (by omega)), State.mem_setMem_same]
    · have hsrc := oamSource_toNat v (i := i) (by omega)
      have hdst := oamSource_toNat v (i := j) (by omega)
      rw [ih (i + 1) (by omega) hlt (by omega)]
      refine State.memRead_copyByte _ (by omega) (by omega) (s.memRead_noteRead fun e => ?_)
      have := congrArg BitVec.toNat e
      omega

/-- Of memory, OAM DMA changes MEM alone. -/
theorem State.oamDmaFrom_mem_frame (v : Byte) (left i : Nat) (s : State) :
    State.oamDmaFrom v left i s = { s with
      ram := { s.ram with mem := (State.oamDmaFrom v left i s).ram.mem }
      divDraws := (State.oamDmaFrom v left i s).divDraws } := by
  induction left generalizing i s with
  | zero => rfl
  | succ left ih =>
    rw [State.oamDmaFrom_succ]
    refine (ih (i + 1) _).trans ?_
    simp [State.setMem]

theorem State.oamDma_mem (s : State) (v : Byte) {i : Nat} (hi : i < 160) :
    (s.oamDma v).mem (0xFE00 + i) = s.memRead (cat v 0 + BitVec.ofNat 16 i) :=
  State.oamDmaFrom_mem 160 0 (by decide) (Nat.zero_le i) (by omega) s

theorem State.memWrite_dma (s : State) (v : Byte) : s.memWrite 0xFF46 v = (s.setMem addrDma v).oamDma v := by
  simp [State.memWrite]

/-! ### The palette ports (R132) -/

/-- The index register after a write of the data port, in numbers. -/
def nextIndex (x : Byte) : Nat :=
  if 128 ≤ x.toNat then x.toNat / 64 * 64 + (x.toNat + 1) % 64 else x.toNat

theorem byte_nextIndex (x : Byte) :
    byte (nextIndex x) = if bit x 7 then (x &&& 0xC0#8) ||| ((x + 1) &&& 0x3F#8) else x := by
  revert x
  decide

theorem State.mem_advancePaletteIndex (s : State) (n k : Nat) :
    (s.advancePaletteIndex n).mem k = if k = n then byte (nextIndex (s.mem n)) else s.mem k := by
  rw [byte_nextIndex, State.advancePaletteIndex]
  split
  · exact s.mem_setMem n k _
  · split
    · next e => rw [e]
    · rfl

theorem State.advancePaletteIndex_palettes (s : State) (n : Nat) : (s.advancePaletteIndex n).ram.bgPal = s.ram.bgPal ∧
    (s.advancePaletteIndex n).ram.objPal = s.ram.objPal := by
  unfold State.advancePaletteIndex
  dsimp only
  split <;> exact ⟨rfl, rfl⟩

theorem State.memWrite_bcpd {s : State} (v : Byte) (h : s.isCgb = true) : s.memWrite 0xFF69 v = s.bgPaletteWrite v :=
  (if_neg fun e => absurd e.2 (by decide)).trans (if_pos ⟨h, rfl⟩)

theorem State.memWrite_ocpd {s : State} (v : Byte) (h : s.isCgb = true) : s.memWrite 0xFF6B v = s.objPaletteWrite v :=
  (if_neg fun e => absurd e.2 (by decide)).trans <| (if_neg fun e => absurd e.2 (by decide)).trans (if_pos ⟨h, rfl⟩)

/-! ### Every write -/

/-- In CGB mode a store to an index or data port of a palette touches the other one of the two (R107). -/
theorem not_touched_palette {p : Params} {a b : Word} (hc : p.colorMode = .cgb) (h : touched p a b = false) :
    (a.toNat = 0xFF68 → b.toNat ≠ 0xFF69) ∧ (a.toNat = 0xFF69 → b.toNat ≠ 0xFF68) ∧
    (a.toNat = 0xFF6A → b.toNat ≠ 0xFF6B) ∧ (a.toNat = 0xFF6B → b.toNat ≠ 0xFF6A) := by
  refine ⟨fun ha hb => ?_, fun ha hb => ?_, fun ha hb => ?_, fun ha hb => ?_⟩
  all_goals
    rw [(BitVec.toNat_eq_nat.mp ha).2, (BitVec.toNat_eq_nat.mp hb).2, touched, hc] at h
    exact absurd h (by decide)

theorem not_looksAt_of_not_touched {s : State} {a b : Word} (ha : 0x8000 ≤ a.toNat) (h : touched s.params a b = false) :
    ¬ LooksAt s.isCgb b.toNat a.toNat := by
  obtain ⟨hne, -, hvbk, hsvbk⟩ := not_touched ha h
  rintro (e | ⟨hc, hreg⟩)
  · exact hne e.symm
  · have hmode := s.isCgb_iff.mp hc
    obtain ⟨hbg, -, hobj, -⟩ := not_touched_palette hmode h
    rcases hreg with ⟨e, hin⟩ | ⟨e, hin⟩ | ⟨e, e'⟩ | ⟨e, e'⟩
    · have := hvbk hmode e
      omega
    · have := hsvbk hmode e
      omega
    · exact hbg e e'
    · exact hobj e e'

/-- A change of the divider changes the read of 0xFF04 alone. -/
theorem State.memRead_withTimer {s : State} {b : Word} (t : Timer) (hb : b.toNat ≠ addrDiv) :
    State.memRead { s with timer := t } b = s.memRead b :=
  ite_congr rfl (fun _ => rfl) fun _ => ite_congr rfl (fun _ => rfl) fun _ => ite_congr rfl (fun _ => rfl) fun _ =>
    ite_congr rfl (fun _ => rfl) fun _ => ite_congr rfl (fun _ => rfl) fun _ => ite_congr rfl (fun e => absurd e hb)
      fun _ => rfl

/-- Only the two ports of a palette are read with its index. -/
theorem not_looksAt_bcps {cgb : Bool} {b : Nat} (hs : b ≠ addrBcps) (hd : b ≠ addrBcpd) : ¬ LooksAt cgb b addrBcps := by
  rintro (e | ⟨-, ⟨e, -⟩ | ⟨e, -⟩ | ⟨-, e⟩ | ⟨e, -⟩⟩)
  · exact hs e.symm
  · cases e
  · cases e
  · exact hd e
  · cases e

theorem not_looksAt_ocps {cgb : Bool} {b : Nat} (hs : b ≠ addrOcps) (hd : b ≠ addrOcpd) : ¬ LooksAt cgb b addrOcps := by
  rintro (e | ⟨-, ⟨e, -⟩ | ⟨e, -⟩ | ⟨e, -⟩ | ⟨-, e⟩⟩)
  · exact hs e.symm
  · cases e
  · cases e
  · cases e
  · exact hd e

theorem State.memRead_withCart {s : State} {c : Cart} {b : Word} (hrom : c.rom = s.cart.rom)
    (h : 0x4000 ≤ b.toNat → b.toNat < 0x8000 → c.bankHi = s.cart.bankHi ∧ c.romBankLo = s.cart.romBankLo) :
    State.memRead { s with cart := c } b = s.memRead b := by
  obtain ⟨rom, lo, hi, md⟩ := c
  obtain rfl : rom = s.cart.rom := hrom
  refine ite_congr rfl (fun _ => rfl) fun hl => ite_congr rfl (fun hh => ?_) fun _ => rfl
  obtain ⟨rfl, rfl⟩ := h (Nat.le_of_not_lt hl) hh
  rfl

/-- A write below 0x8000 changes at most the bank that 0x4000-0x7FFF reads (R121 to R124). -/
theorem State.memRead_bankWrite {s : State} {a b : Word} (v : Byte) (ha : a.toNat < 0x8000)
    (h : touched s.params a b = false) : (s.bankWrite a.toNat v).memRead b = s.memRead b := by
  have hout (hl : 0x2000 ≤ a.toNat) (hh : a.toNat < 0x6000) : 0x4000 ≤ b.toNat → ¬ b.toNat < 0x8000 := by
    rw [touched, if_neg (by omega), if_pos hh] at h
    simpa using h
  by_cases h2 : a.toNat < 0x2000
  · rw [s.bankWrite_below v h2]
  by_cases h4 : a.toNat < 0x4000
  · rw [s.bankWrite_low v (by omega) h4]
    exact State.memRead_withCart rfl fun hl hh => absurd hh (hout (by omega) (by omega) hl)
  by_cases h6 : a.toNat < 0x6000
  · rw [s.bankWrite_high v (by omega) h6]
    exact State.memRead_withCart rfl fun hl hh => absurd hh (hout (by omega) (by omega) hl)
  · rw [s.bankWrite_mode v (by omega)]
    exact State.memRead_withCart rfl fun _ _ => ⟨rfl, rfl⟩

theorem memRead_ite {p : Prop} [Decidable p] {x y : State} {b : Word} {w : Byte} (hx : p → x.memRead b = w)
    (hy : ¬ p → y.memRead b = w) : (if p then x else y).memRead b = w := by
  split
  · exact hx ‹p›
  · exact hy ‹¬ p›

/-- A write changes no read that it does not touch (R106, R107). -/
theorem State.memRead_memWrite {s : State} {a b : Word} (v : Byte) (h : touched s.params a b = false)
    (hdraw : s.params.divRead = .counter ∨ b ≠ 0xFF04#16) : (s.memWrite a v).memRead b = s.memRead b := by
  by_cases hrom : a.toNat < 0x8000
  · rw [s.memWrite_bankController v hrom]
    exact State.memRead_bankWrite v hrom h
  have hl : 0x8000 ≤ a.toNat := Nat.le_of_not_lt hrom
  obtain ⟨hne, hdma, -, -⟩ := not_touched hl h
  have hstore (w : Byte) : (s.setMem a.toNat w).memRead b = s.memRead b :=
    State.memRead_setMem_of_not_looksAt w (not_looksAt_of_not_touched hl h)
  refine memRead_ite (fun hlow => absurd hlow hrom) fun _ => memRead_ite (fun hin => ?_) fun _ =>
    memRead_ite (fun hin => ?_) fun _ => memRead_ite (fun _ => ?_) fun _ => memRead_ite (fun hdiv => ?_) fun _ =>
    memRead_ite (fun _ => hstore _) fun _ => memRead_ite (fun _ => rfl) fun _ =>
    memRead_ite (fun htrigger => ?_) fun _ => memRead_ite (fun _ => hstore _) fun _ =>
    memRead_ite (fun hport => ?_) fun _ => memRead_ite (fun hport => ?_) fun _ =>
    hstore v
  · exact State.memRead_congr_ram (fun _ _ => rfl) (fun _ _ _ => Store.read_write_ne _ _ (by omega)) (fun _ _ _ => rfl)
      (fun _ => rfl) fun _ => rfl
  · obtain ⟨hal, hah, -⟩ := hin
    exact State.memRead_congr_ram (fun _ _ => rfl) (fun _ _ _ => rfl) (fun _ _ _ => Store.read_write_ne _ _ (by omega))
      (fun _ => rfl) fun _ => rfl
  · exact (State.memRead_congr b rfl rfl rfl rfl rfl (.inl rfl)).trans (hstore v)
  · exact State.memRead_withTimer _ (hdiv ▸ hne)
  · exact ((s.setMem a.toNat v).memRead_oamDma v (hdma htrigger) hdraw).trans (hstore v)
  · obtain ⟨hc, hport⟩ := hport
    have hd : b.toNat ≠ addrBcpd := hport ▸ hne
    obtain ⟨-, hs, -⟩ := not_touched_palette (s.isCgb_iff.mp hc) h
    exact State.memRead_bgPaletteWrite v hd (not_looksAt_bcps (hs hport) hd)
  · obtain ⟨hc, hport⟩ := hport
    have hd : b.toNat ≠ addrOcpd := hport ▸ hne
    obtain ⟨-, -, -, hs⟩ := not_touched_palette (s.isCgb_iff.mp hc) h
    exact State.memRead_objPaletteWrite v hd (not_looksAt_ocps (hs hport) hd)

end Sys2Proof.Machine

namespace Sys2Proof.Proofs
open Sys2Proof.Machine Sys2Proof.Forms

/-- Settles O16: no branch of MemWrite changes what a read looks at, but where it touches it. -/
theorem memWriteFrame : Obligations.MemWriteFrame :=
  fun s a _ v h hdraw => ⟨State.memRead_memWrite v h hdraw, s.memWrite_cpu a v⟩

/-- Settles O19: a source in OAM is its own place, so each byte is copied as it read before. -/
theorem oamDmaCopiesPage : Obligations.OamDmaCopiesPage := by
  intro s v k
  have hs := storesByte_oamDma s v
  dsimp only
  rw [s.memWrite_dma v]
  refine ⟨fun i hi => ?_, fun hk => ?_, State.oamDmaFrom_mem_frame v 160 0 (s.setMem addrDma v)⟩
  · have hsrc : BitVec.ofNat 16 (v.toNat * 256 + i) = cat v 0 + BitVec.ofNat 16 i :=
      (BitVec.toNat_eq_nat.mp (oamSource_toNat v hi)).2.symm
    rw [hsrc, ← State.mem]
    exact (s.setMem addrDma v).oamDma_mem v hi
  · split
    · next e => exact e ▸ hs.same
    · next hne => exact hs.other k hne fun _ => hk

/-- Settles O20: each data port is a write of its palette and one advance of its index. -/
theorem paletteDataWrites : Obligations.PaletteDataWrites := by
  intro s v h
  have hc := s.isCgb_iff.mpr h
  refine ⟨?_, ?_⟩
  · dsimp only
    rw [State.memWrite_bcpd v hc]
    refine ⟨fun j => ?_, State.mem_advancePaletteIndex _ addrBcps, s.noteRead_ram _⟩
    rw [State.bgPaletteWrite, (State.advancePaletteIndex_palettes _ _).1]
    exact Store.read_write _ _ _ _
  · dsimp only
    rw [State.memWrite_ocpd v hc]
    refine ⟨fun j => ?_, State.mem_advancePaletteIndex _ addrOcps, s.noteRead_ram _⟩
    rw [State.objPaletteWrite, (State.advancePaletteIndex_palettes _ _).2]
    exact Store.read_write _ _ _ _

end Sys2Proof.Proofs
end

section
/-! SUPPORT. The bytes that an instruction leaves: a meaning changes no read but those that its stores touch, and the
tables of the statements name these stores by the fields of the instruction's bytes (30_encoding.md R161 to R166). -/

namespace Sys2Proof.Machine
open Sys2Proof.Forms

/-! ### Updates that store nothing -/

/-- All that a read looks at, but for the count of DIV draws (R105). -/
def State.memView (s : State) : Params × Cart × Ram × Timer × Byte := (s.params, s.cart, s.ram, s.timer, s.controls)

section
variable (s : State)

@[simp] theorem State.memView_withCpu (c : Cpu) : State.memView { s with cpu := c } = s.memView := rfl

@[simp] theorem State.memView_setReg (r : Reg8) (v : Byte) : (s.setReg r v).memView = s.memView := by
  simp [State.memView]

@[simp] theorem State.memView_setFlags (z n h c : Bool) : (s.setFlags z n h c).memView = s.memView := rfl

@[simp] theorem State.memView_rotateFlags (r : Byte × Bool) : (s.rotateFlags r).memView = s.memView := rfl

@[simp] theorem State.memView_bitFlags (b : Nat) (v : Byte) : (s.bitFlags b v).memView = s.memView := rfl

@[simp] theorem State.memView_incFlags (v : Byte) : (s.incFlags v).memView = s.memView := rfl

@[simp] theorem State.memView_decFlags (v : Byte) : (s.decFlags v).memView = s.memView := rfl

@[simp] theorem State.memView_addHlFlags (v w : Word) : (s.addHlFlags v w).memView = s.memView := rfl

@[simp] theorem State.memView_setSp (v : Word) : (s.setSp v).memView = s.memView := rfl

@[simp] theorem State.memView_setPc (v : Word) : (s.setPc v).memView = s.memView := rfl

@[simp] theorem State.memView_setPair (p : Pair) (v : Word) : (s.setPair p v).memView = s.memView := by
  simp [State.memView]

@[simp] theorem State.memView_noteRead (a : Word) : (s.noteRead a).memView = s.memView := by
  simp [State.memView]

@[simp] theorem State.memView_addCycles (n : Nat) : (s.addCycles n).memView = s.memView := rfl

@[simp] theorem State.memView_pop16 : s.pop16.2.memView = s.memView := by
  simp [State.pop16_snd]

@[simp] theorem State.memView_returnPc : s.returnPc.memView = s.memView := by
  simp [State.returnPc]

@[simp] theorem State.memView_returnFromInterrupt : s.returnFromInterrupt.memView = s.memView := s.memView_pop16

@[simp] theorem State.memView_alu (op : AluOp) (v : Byte) : (s.alu op v).memView = s.memView := by
  cases op <;> simp [State.alu, State.logicA]

end

/-! ### The reads that stores leave -/

/-- `t` reads as `s` at every address that no store to one of `A` touches; 0xFF04 with `DIV_READ = draw` is left out. -/
structure Leaves (A : List Word) (s t : State) : Prop where
  params : t.params = s.params
  read : ∀ b, (∀ a ∈ A, touched s.params a b = false) → (s.params.divRead = .counter ∨ b ≠ 0xFF04#16) →
    t.memRead b = s.memRead b

namespace Leaves

variable {A : List Word} {s t u : State}

theorem refl (A : List Word) (s : State) : Leaves A s s := ⟨rfl, fun _ _ _ => rfl⟩

theorem trans (h : Leaves A s t) (h' : Leaves A t u) : Leaves A s u :=
  ⟨h'.params.trans h.params, fun b hb hdraw =>
    (h'.read b (by rwa [h.params]) (by rwa [h.params])).trans (h.read b hb hdraw)⟩

/-- An update that stores nothing. -/
theorem quiet (h : Leaves A s t) (hview : u.memView = t.memView) : Leaves A s u := by
  simp only [State.memView, Prod.mk.injEq] at hview
  obtain ⟨hparams, hcart, hram, htimer, hcontrols⟩ := hview
  exact h.trans ⟨hparams, fun b _ hdraw => State.memRead_congr b hparams hcart hram htimer hcontrols (.inr hdraw)⟩

theorem memWrite (h : Leaves A s t) {a : Word} (v : Byte) (ha : a ∈ A) : Leaves A s (t.memWrite a v) :=
  h.trans ⟨t.memWrite_params a v, fun _ hb hdraw => State.memRead_memWrite v (hb a ha) hdraw⟩

/-- The store to KEY1 that STOP makes beside the MMU (R352). -/
theorem setKey1 (h : Leaves A s t) (v : Byte) (ha : 0xFF4D#16 ∈ A) : Leaves A s (t.setMem addrKey1 v) :=
  h.trans ⟨rfl, fun _ hb _ => State.memRead_setMem_of_not_looksAt (n := addrKey1) v
    (not_looksAt_of_not_touched (a := 0xFF4D#16) (by decide) (hb _ ha))⟩

theorem noteRead (h : Leaves A s t) (a : Word) : Leaves A s (t.noteRead a) := h.quiet (by simp)

theorem setSp (h : Leaves A s t) (v : Word) : Leaves A s (t.setSp v) := h.quiet rfl

theorem setPc (h : Leaves A s t) (v : Word) : Leaves A s (t.setPc v) := h.quiet rfl

theorem setHl (h : Leaves A s t) (v : Word) : Leaves A s (t.setPair .hl v) := h.quiet rfl

theorem setFlags (h : Leaves A s t) (z n hc c : Bool) : Leaves A s (t.setFlags z n hc c) := h.quiet rfl

theorem done (h : Leaves A s t) (n : Nat) : Answers (t.done n) (Leaves A s) := answers_next (h.quiet rfl)

end Leaves

/-! ### What each shared operation stores to -/

/-- The two slots of a push (R12). -/
def slots (s : State) : List Word := [s.cpu.sp - 1, s.cpu.sp - 2]

theorem Leaves.push16 {A : List Word} {s : State} (v : Word) (h : slots s ⊆ A) : Leaves A s (s.push16 v) := by
  rw [State.push16_eq]
  exact ((((Leaves.refl A s).setSp _).memWrite _ (h (by simp [slots]))).setSp _).memWrite _ (h (by simp [slots]))

namespace Meaning

/-- `m` changes no read but those that a store to one of the addresses `A` gives touches. -/
def Stores (m : Meaning) (A : State → List Word) : Prop := ∀ s, Answers (m.run s) (Leaves (A s) s)

/-- `m` stores nothing. -/
def Quiet (m : Meaning) : Prop := ∀ s, Answers (m.run s) fun t => t.memView = s.memView

theorem Quiet.stores {m : Meaning} (h : m.Quiet) (A : State → List Word) : m.Stores A :=
  fun s t ht => (Leaves.refl _ s).quiet (h s t ht)

theorem Quiet.ite {c : Prop} [Decidable c] {m n : Meaning} (h : m.Quiet) (h' : n.Quiet) :
    (if c then m else n).Quiet := by
  split
  · exact h
  · exact h'

theorem Stores.congr {m : Meaning} {A B : State → List Word} (h : m.Stores A) (e : ∀ s, B s = A s) : m.Stores B :=
  funext e ▸ h

theorem stA_stores (a : State → Word) (n : Nat) : (stA a n).Stores fun s => [a s] :=
  fun s => ((Leaves.refl _ s).memWrite _ (by simp)).done n

theorem stAMoveHL_stores (step : Word) : (stAMoveHL step).Stores fun s => [s.hl] :=
  fun s => (((Leaves.refl _ s).memWrite _ (by simp)).setHl _).done 8

theorem ldHLReg_stores (r : Reg8) : (ldHLReg r).Stores fun s => [s.hl] :=
  fun s => ((Leaves.refl _ s).memWrite _ (by simp)).done 8

theorem ldHLImm_stores (d8 : Byte) : (ldHLImm d8).Stores fun s => [s.hl] :=
  fun s => ((Leaves.refl _ s).memWrite _ (by simp)).done 12

theorem ldIndA16SP_stores (a16 : Word) : (ldIndA16SP a16).Stores fun _ => [a16, a16 + 1] :=
  fun s => (((Leaves.refl _ s).memWrite _ (by simp)).memWrite _ (by simp)).done 20

theorem incIndHL_stores : incIndHL.Stores fun s => [s.hl] :=
  fun s => ((((Leaves.refl _ s).noteRead _).memWrite _ (by simp)).setFlags _ _ _ _).done 12

theorem decIndHL_stores : decIndHL.Stores fun s => [s.hl] :=
  fun s => ((((Leaves.refl _ s).noteRead _).memWrite _ (by simp)).setFlags _ _ _ _).done 12

theorem rotateHL_stores (op : RotOp) : (rotateHL op).Stores fun s => [s.hl] :=
  fun s => ((((Leaves.refl _ s).noteRead _).memWrite _ (by simp)).setFlags _ _ _ _).done 16

theorem resHL_stores (b : Nat) : (resHL b).Stores fun s => [s.hl] :=
  fun s => (((Leaves.refl _ s).noteRead _).memWrite _ (by simp)).done 16

theorem setHLBit_stores (b : Nat) : (setHLBit b).Stores fun s => [s.hl] :=
  fun s => (((Leaves.refl _ s).noteRead _).memWrite _ (by simp)).done 16

theorem pushPair_stores (p : Pair) : (pushPair p).Stores slots :=
  fun _ => (Leaves.push16 _ (List.Subset.refl _)).done 16

theorem call_stores (target : Word) (n : Nat) : (call target n).Stores slots :=
  fun _ => ((Leaves.push16 _ (List.Subset.refl _)).setPc _).done n

theorem callCond_stores (cc : Cond) (a16 : Word) :
    (callCond cc a16).Stores fun s => if holds s cc then slots s else [] := by
  intro s
  show Answers (if s.cond cc then (s.callTo a16).done 24 else s.done 12) (Leaves (if holds s cc then slots s else []) s)
  rw [holds_eq_cond]
  by_cases h : s.cond cc = true
  · rw [if_pos h, if_pos h]
    exact ((Leaves.push16 _ (List.Subset.refl _)).setPc _).done 24
  · rw [if_neg h, if_neg h]
    exact (Leaves.refl _ s).done 12

theorem stop_stores (d8 : Byte) :
    (stop d8).Stores fun s => if s.isCgb && bit (s.mem addrKey1) 0 then [0xFF4D#16] else [] := by
  intro s
  show Answers (execStop d8 s) (Leaves (if s.isCgb && bit (s.mem addrKey1) 0 then [0xFF4D#16] else []) s)
  unfold execStop
  by_cases h : (s.isCgb && bit (s.mem addrKey1) 0) = true
  · rw [if_pos h, if_pos h]
    exact ((Leaves.refl _ s).setKey1 _ (by simp)).done 4
  · rw [if_neg h, if_neg h]
    exact (Leaves.refl _ s).done 4

/-- A CB instruction stores where its operand is (HL), unless it is BIT (R171). -/
theorem cb_stores (cbop : Byte) :
    (cb cbop).Stores fun s => if cbop.toNat % 8 = 6 ∧ cbop.toNat / 64 ≠ 1 then [s.hl] else [] := by
  have hx : cbop.toNat / 64 < 4 := by have := cbop.isLt; omega
  unfold cb
  dsimp only
  generalize cbop.toNat / 64 = x at hx
  by_cases hz : cbop.toNat % 8 = 6
  · rw [if_pos hz, hz]
    interval_cases x
    · exact rotateHL_stores _
    · exact Quiet.stores (fun s => answers_next (by simp)) _
    · exact resHL_stores _
    · exact setHLBit_stores _
  · rw [if_neg hz]
    interval_cases x
    all_goals exact Quiet.stores (fun s => answers_next (by simp)) _

/-! ### The operations that store nothing -/

theorem ldA_quiet (a : State → Word) (n : Nat) : (ldA a n).Quiet := fun _ => answers_next (by simp)

theorem ldAMoveHL_quiet (step : Word) : (ldAMoveHL step).Quiet := fun _ => answers_next (by simp)

theorem jump_quiet (a : State → Word) (n : Nat) : (jump a n).Quiet := fun _ => answers_next (by simp)

theorem jrCond_quiet (cc : Cond) (e : Byte) : (jrCond cc e).Quiet :=
  fun _ => answers_ite (answers_next (by simp)) (answers_next (by simp))

theorem jpCond_quiet (cc : Cond) (a16 : Word) : (jpCond cc a16).Quiet :=
  fun _ => answers_ite (answers_next (by simp)) (answers_next (by simp))

theorem retCond_quiet (cc : Cond) : (retCond cc).Quiet :=
  fun _ => answers_ite (answers_next (by simp)) (answers_next (by simp))

theorem illegal_quiet : illegal.Quiet := by
  intro s
  show Answers (execIllegal 0 s) _
  unfold execIllegal
  split
  · exact answers_next (by simp)
  · exact answers_next (by simp)

/-- The operations on A, F and the rotates of A. -/
theorem accumulator_quiet (y : Nat) : (accumulator y).Quiet := by
  unfold accumulator
  split
  all_goals exact fun s => answers_next (by simp)

theorem popRow_quiet (y : Nat) : (popRow y).Quiet := by
  unfold popRow
  split
  · exact fun s => answers_next (by simp)
  · exact fun s => answers_next (by simp)
  · exact jump_quiet _ 4
  · exact fun s => answers_next (by simp)
  · exact fun s => answers_next (by simp)

theorem row2_quiet (y z : Nat) : (row2 y z).Quiet :=
  Quiet.ite (fun s => answers_next (by simp)) fun s => answers_next (by simp)

end Meaning

/-! ### The table of the addresses -/

/-- The first byte of an instruction's words. -/
def opcode (i : Instr) : Byte := (encode i).headD 0

/-- The byte after the opcode, an operand byte or the second byte of a CB instruction. -/
def operandByte (i : Instr) : Byte := (encode i).getD 1 0

/-- The operand word, low byte first (R160). -/
def operandWord (i : Instr) : Word := cat ((encode i).getD 2 0) ((encode i).getD 1 0)

section
variable {i : Instr} (s : State)

theorem storeAddrs_bc (h : opcode i = 0x02#8) : storeAddrs s i = [s.getPair .bc] := by
  rw [opcode] at h
  rw [storeAddrs, h]
  rfl

theorem storeAddrs_de (h : opcode i = 0x12#8) : storeAddrs s i = [s.getPair .de] := by
  rw [opcode] at h
  rw [storeAddrs, h]
  rfl

theorem storeAddrs_hl {op : Byte} (h : opcode i = op) (hop : op ∈ [0x22#8, 0x32, 0x34, 0x35, 0x36, 0x70, 0x71, 0x72,
    0x73, 0x74, 0x75, 0x77]) : storeAddrs s i = [s.hl] := by
  rw [opcode] at h
  rw [storeAddrs, h]
  simp only [List.mem_cons, List.not_mem_nil, or_false] at hop
  rcases hop with rfl | rfl | rfl | rfl | rfl | rfl | rfl | rfl | rfl | rfl | rfl | rfl <;> rfl

theorem storeAddrs_a16SP (h : opcode i = 0x08#8) : storeAddrs s i = [operandWord i, operandWord i + 1] := by
  rw [opcode] at h
  rw [storeAddrs, h]
  rfl

theorem storeAddrs_stop (h : opcode i = 0x10#8) :
    storeAddrs s i = if s.isCgb && bit (s.mem addrKey1) 0 then [0xFF4D#16] else [] := by
  rw [opcode] at h
  rw [storeAddrs, h]
  simp [State.isCgb, bit]

theorem storeAddrs_highPage (h : opcode i = 0xE0#8) : storeAddrs s i = [highPage (operandByte i)] := by
  rw [opcode] at h
  rw [storeAddrs, h, highPage_eq_ofNat]
  rfl

theorem storeAddrs_highPageC (h : opcode i = 0xE2#8) : storeAddrs s i = [highPage s.cpu.c] := by
  rw [opcode] at h
  rw [storeAddrs, h, highPage_eq_ofNat]
  rfl

theorem storeAddrs_a16 (h : opcode i = 0xEA#8) : storeAddrs s i = [operandWord i] := by
  rw [opcode] at h
  rw [storeAddrs, h]
  rfl

theorem storeAddrs_slots {op : Byte} (h : opcode i = op) (hop : op ∈ [0xC5#8, 0xD5, 0xE5, 0xF5, 0xCD, 0xC7, 0xCF, 0xD7,
    0xDF, 0xE7, 0xEF, 0xF7, 0xFF]) : storeAddrs s i = slots s := by
  rw [opcode] at h
  rw [storeAddrs, h]
  simp only [List.mem_cons, List.not_mem_nil, or_false] at hop
  rcases hop with rfl | rfl | rfl | rfl | rfl | rfl | rfl | rfl | rfl | rfl | rfl | rfl | rfl <;> rfl

theorem storeAddrs_callCond (cc : Cond) (h : opcode i = BitVec.ofNat 8 (0xC4 + 8 * condField cc)) :
    storeAddrs s i = if holds s cc then slots s else [] := by
  rw [opcode] at h
  rw [storeAddrs, h]
  cases cc <;> rfl

theorem storeAddrs_cb (h : opcode i = 0xCB#8) : storeAddrs s i =
    if (operandByte i).toNat % 8 = 6 ∧ (operandByte i).toNat / 64 ≠ 1 then [s.hl] else [] := by
  rw [opcode] at h
  rw [storeAddrs, h]
  rfl

end

/-! ### The rows of the opcode map -/

namespace Meaning

/-- `m` stores to no address but those that the table names for `i`. -/
def StoresOf (m : Meaning) (i : Instr) : Prop := m.Stores fun s => storeAddrs s i

theorem Quiet.storesOf {m : Meaning} (h : m.Quiet) (i : Instr) : m.StoresOf i := h.stores _

theorem StoresOf.ite {c : Prop} [Decidable c] {m n : Meaning} {i : Instr} (h : c → m.StoresOf i) (h' : n.StoresOf i) :
    (if c then m else n).StoresOf i := by
  split
  case isTrue hc => exact h hc
  case isFalse => exact h'

section
variable {i : Instr} {y z : Nat}

theorem relative_stores (hy : y < 8) (hop : opcode i = BitVec.ofNat 8 (8 * y)) :
    (relative (operandByte i) (operandWord i) y).StoresOf i := by
  interval_cases y
  · exact Quiet.storesOf (fun s => answers_next (by simp)) i
  · exact (ldIndA16SP_stores _).congr fun s => storeAddrs_a16SP s hop
  · exact (stop_stores _).congr fun s => storeAddrs_stop s hop
  · exact (jump_quiet _ 12).storesOf i
  all_goals exact (jrCond_quiet _ _).storesOf i

theorem indirect_stores (hy : y < 8) (hop : opcode i = BitVec.ofNat 8 (8 * y + 2)) : (indirect y).StoresOf i := by
  interval_cases y
  · exact (stA_stores _ 8).congr fun s => storeAddrs_bc s hop
  · exact (ldA_quiet _ 8).storesOf i
  · exact (stA_stores _ 8).congr fun s => storeAddrs_de s hop
  · exact (ldA_quiet _ 8).storesOf i
  · exact (stAMoveHL_stores _).congr fun s => storeAddrs_hl s hop (by decide)
  · exact (ldAMoveHL_quiet _).storesOf i
  · exact (stAMoveHL_stores _).congr fun s => storeAddrs_hl s hop (by decide)
  · exact (ldAMoveHL_quiet _).storesOf i

theorem row0_stores (hy : y < 8) (hz : z < 8) (hop : opcode i = BitVec.ofNat 8 (8 * y + z)) :
    (row0 y z (operandByte i) (operandWord i)).StoresOf i := by
  interval_cases z
  · exact relative_stores hy hop
  · exact (Quiet.ite (fun s => answers_next (by simp)) fun s => answers_next (by simp)).storesOf i
  · exact indirect_stores hy hop
  · exact (Quiet.ite (fun s => answers_next (by simp)) fun s => answers_next (by simp)).storesOf i
  · refine StoresOf.ite (fun y6 => ?_) (Quiet.storesOf (fun s => answers_next (by simp)) i)
    subst y6
    exact incIndHL_stores.congr fun s => storeAddrs_hl s hop (by decide)
  · refine StoresOf.ite (fun y6 => ?_) (Quiet.storesOf (fun s => answers_next (by simp)) i)
    subst y6
    exact decIndHL_stores.congr fun s => storeAddrs_hl s hop (by decide)
  · refine StoresOf.ite (fun y6 => ?_) (Quiet.storesOf (fun s => answers_next (by simp)) i)
    subst y6
    exact (ldHLImm_stores _).congr fun s => storeAddrs_hl s hop (by decide)
  · exact (accumulator_quiet y).storesOf i

theorem row1_stores (hz : z < 8) (hop : opcode i = BitVec.ofNat 8 (64 + 8 * y + z)) : (row1 y z).StoresOf i := by
  refine StoresOf.ite (fun _ => Quiet.storesOf (fun s => answers_next (by simp)) i) ?_
  by_cases z6 : z = 6
  · rw [if_pos z6]
    exact Quiet.storesOf (fun s => answers_next (by simp)) i
  · rw [if_neg z6]
    refine StoresOf.ite (fun y6 => ?_) (Quiet.storesOf (fun s => answers_next (by simp)) i)
    subst y6
    refine (ldHLReg_stores _).congr fun s => storeAddrs_hl s hop ?_
    rcases regField_cases hz z6 with rfl | rfl | rfl | rfl | rfl | rfl | rfl <;> decide

theorem highPageRow_stores (hy : y < 8) (hop : opcode i = BitVec.ofNat 8 (192 + 8 * y)) :
    (highPageRow (operandByte i) y).StoresOf i := by
  interval_cases y
  iterate 4 exact (retCond_quiet _).storesOf i
  · exact (stA_stores _ 12).congr fun s => storeAddrs_highPage s hop
  · exact Quiet.storesOf (fun s => answers_next (by simp)) i
  · exact (ldA_quiet _ 12).storesOf i
  · exact Quiet.storesOf (fun s => answers_next (by simp)) i

theorem jumpRow_stores (hy : y < 8) (hop : opcode i = BitVec.ofNat 8 (192 + 8 * y + 2)) :
    (jumpRow (operandWord i) y).StoresOf i := by
  interval_cases y
  iterate 4 exact (jpCond_quiet _ _).storesOf i
  · exact (stA_stores _ 8).congr fun s => storeAddrs_highPageC s hop
  · exact (stA_stores _ 16).congr fun s => storeAddrs_a16 s hop
  · exact (ldA_quiet _ 8).storesOf i
  · exact (ldA_quiet _ 16).storesOf i

theorem row3_stores (hy : y < 8) (hz : z < 8) (hop : opcode i = BitVec.ofNat 8 (192 + 8 * y + z)) :
    (row3 y z (operandByte i) (operandWord i)).StoresOf i := by
  interval_cases z
  · exact highPageRow_stores hy hop
  · exact (popRow_quiet y).storesOf i
  · exact jumpRow_stores hy hop
  · interval_cases y
    · exact (jump_quiet _ 16).storesOf i
    · exact (cb_stores _).congr fun s => storeAddrs_cb s hop
    iterate 4 exact illegal_quiet.storesOf i
    · exact Quiet.storesOf (fun s => answers_next (by simp)) i
    · exact Quiet.storesOf (fun s => answers_ite (answers_next (by simp)) (answers_next (by simp))) i
  · interval_cases y
    · exact (callCond_stores .nz _).congr fun s => storeAddrs_callCond s .nz hop
    · exact (callCond_stores .z _).congr fun s => storeAddrs_callCond s .z hop
    · exact (callCond_stores .nc _).congr fun s => storeAddrs_callCond s .nc hop
    · exact (callCond_stores .c _).congr fun s => storeAddrs_callCond s .c hop
    all_goals exact illegal_quiet.storesOf i
  · rcases Nat.even_or_odd' y with ⟨p, rfl | rfl⟩
    · have : p < 4 := by omega
      interval_cases p <;> exact (pushPair_stores _).congr fun s => storeAddrs_slots s hop (by decide)
    · have : p < 4 := by omega
      interval_cases p
      · exact (call_stores _ 24).congr fun s => storeAddrs_slots s hop (by decide)
      all_goals exact illegal_quiet.storesOf i
  · exact Quiet.storesOf (fun s => answers_next (by simp)) i
  · refine (call_stores _ 16).congr fun s => storeAddrs_slots s hop ?_
    interval_cases y <;> decide

end

theorem ofOpcode_stores (i : Instr) : (ofOpcode (opcode i) (operandByte i) (operandWord i)).StoresOf i := by
  have hop : opcode i = BitVec.ofNat 8 (64 * ((opcode i).toNat / 64) + 8 * ((opcode i).toNat / 8 % 8) +
      (opcode i).toNat % 8) := by bv_omega
  have hx : (opcode i).toNat / 64 < 4 := by have := (opcode i).isLt; omega
  have hy : (opcode i).toNat / 8 % 8 < 8 := Nat.mod_lt _ (by decide)
  have hz : (opcode i).toNat % 8 < 8 := Nat.mod_lt _ (by decide)
  unfold ofOpcode
  dsimp only
  generalize (opcode i).toNat / 64 = x, (opcode i).toNat / 8 % 8 = y, (opcode i).toNat % 8 = z at hop hx hy hz
  interval_cases x
  · exact row0_stores hy hz (by simpa using hop)
  · exact row1_stores hz hop
  · exact (row2_quiet y z).storesOf i
  · exact row3_stores hy hz hop

end Meaning

/-- An instruction's meaning stores to no address but those that the table names for its words. -/
theorem meaningOf_stores (i : Instr) : (meaningOf i).StoresOf i := by
  unfold meaningOf
  split
  · exact Meaning.illegal_quiet.storesOf i
  · exact Meaning.ofOpcode_stores i

end Sys2Proof.Machine

namespace Sys2Proof.Proofs
open Sys2Proof.Machine Sys2Proof.Forms

/-- Settles O13: an instruction's meaning stores to the addresses of the table alone, and a store changes no read but
those it touches. -/
theorem memoryFrame : Obligations.MemoryFrame := by
  intro i s t h b hb hdraw
  have hrun : (meaningOf i).run s = .next t := by rw [← exec_eq_run, h]
  exact (meaningOf_stores i s t hrun).read b hb hdraw

end Sys2Proof.Proofs
end
